-- ==== Sys2Proof/Word.lean ====
section
/-! DEFINITION. The widths and index ranges of the Marlic 2416 (spec/00_scope.md section 4.4, R170). -/

namespace Sys2Proof

/-- One byte of a frame (R159). -/
abbrev Byte := BitVec 8

/-- A number of 16 bits: a tally cell, a rate bound, a revision (R21, R170). -/
abbrev Half := BitVec 16

/-- A number of 32 bits: wear, R, P, L (Table 1-1). -/
abbrev Word := BitVec 32

/-- An interval number, 0 to 4,294,967,295 (spec/00_scope.md section 4.2). -/
abbrev Interval := BitVec 32

/-- A generation, counted modulo 256 (R3). -/
abbrev Generation := BitVec 8

/-- SP0 to SP3. -/
abbrev Port := Fin 4

/-- M0 to M3. -/
abbrev MachineId := Fin 4

/-- Zone 0 to 15 of a machine. -/
abbrev Zone := Fin 16

/-- Item class 0 to 7. -/
abbrev ItemClass := Fin 8

/-- Element index 0 to 511. -/
abbrev ElementIx := Fin 512

/-- Window slot 0 to 7 of a machine. -/
abbrev WindowSlot := Fin 8

/-- History block 0 to 255. -/
abbrev BlockIx := Fin 256

/-- Record slot of one history block, 0 to 5. -/
abbrev RecordSlot := Fin 6

end Sys2Proof
end

