-- ==== Sys2Proof/Config.lean ====
section
/-! DEFINITION. The constants that the data book fixes. The spec leaves no value of a command open, so there is no opaque free value here. -/

namespace Sys2Proof.Config

/-- START of a frame (R160, Table 9-6). -/
def frameStart : Byte := 0xD2#8

/-- END mark of a frame (R160, Table 9-6). -/
def frameEnd : Byte := 0x2D#8

/-- The byte sent on SDO when no reply is ready (R159, R163). -/
def fillByte : Byte := 0xFF#8

/-- Longest request payload (R160). -/
def maxRequestPayload : Nat := 56

/-- Highest interval number, and the value at which wear and R saturate (spec/00_scope.md section 4.2, R49, R50). -/
def maxWord : Nat := 4294967295

/-- Value at which a tally cell and a hit summary count saturate (R21, R173). -/
def maxHalf : Nat := 65535

/-- Cap of the projection's quotient (R52). -/
def maxProjection : Nat := 65535

/-- Blocks of one history chain (R131). -/
def maxChainBlocks : Nat := 4

/-- Entries of the unplaced list (R113). -/
def maxUnplaced : Nat := 32

/-- Entries of one page of QUEUE_READ or PLAN_READ (R94, R119). -/
def pageEntries : Nat := 8

/-- Records of one page of HISTORY_READ (R141). -/
def pageRecords : Nat := 6

/-- Indices of one ELEMENT_FIND result (R154). -/
def pageFinds : Nat := 16

/-- Half seconds of one minute of interval length (R34). DESIGN CHOICE, unsafe: log 3, the model's clock ticks in half seconds. -/
def ticksPerMinute : Nat := 120

/-- The discard time SHORT, 0.5 s, in half seconds (R151). -/
def shortDiscard : Nat := 1

/-- The discard time LONG, 16 s, in half seconds (R151). -/
def longDiscard : Nat := 32

end Sys2Proof.Config
end

