-- ==== Sys2Proof/Syntax.lean ====
section
/-! DEFINITION. The commands: one constructor per row of spec/opcode_table.json. -/

namespace Sys2Proof

/-- Why a frame fails its envelope check (R161). -/
inductive FrameReason where
  | length
  | endMark
  | check
deriving DecidableEq, Repr

/-- The request kinds of Table 9-4. SERVICE_POST is one kind; its three forms are rows of their own. -/
inductive RequestKind where
  | elementDefine
  | elementVacate
  | elementSuspend
  | elementResume
  | limitsSet
  | hitsAck
  | elementRead
  | passReport
  | runReport
  | reckonNow
  | modeSet
  | queueRead
  | windowSet
  | windowDrop
  | planBuild
  | planRead
  | servicePost
  | historyRead
  | elementFind
  | portReset
  | attnRead
  | attnClear
  | attnEnable
  | statusRead
  | settingsRead
  | settingsWrite
  | restart
deriving DecidableEq, Repr

/-- The rows of spec/opcode_table.json. A request row is the moment a complete frame of its kind ends at
port `p` (R162); `payload` is the frame's payload as received. DESIGN CHOICE, safe: log 1. -/
inductive Instr where
  | elementDefine (p : Port) (payload : List Byte)
  | elementVacate (p : Port) (payload : List Byte)
  | elementSuspend (p : Port) (payload : List Byte)
  | elementResume (p : Port) (payload : List Byte)
  | limitsSet (p : Port) (payload : List Byte)
  | hitsAck (p : Port) (payload : List Byte)
  | elementRead (p : Port) (payload : List Byte)
  | passReport (p : Port) (payload : List Byte)
  | runReport (p : Port) (payload : List Byte)
  | reckonNow (p : Port) (payload : List Byte)
  | modeSet (p : Port) (payload : List Byte)
  | queueRead (p : Port) (payload : List Byte)
  | windowSet (p : Port) (payload : List Byte)
  | windowDrop (p : Port) (payload : List Byte)
  | planBuild (p : Port) (payload : List Byte)
  | planRead (p : Port) (payload : List Byte)
  | servicePostReplaced (p : Port) (payload : List Byte)
  | servicePostInspected (p : Port) (payload : List Byte)
  | servicePostCorrected (p : Port) (payload : List Byte)
  | historyRead (p : Port) (payload : List Byte)
  | elementFind (p : Port) (payload : List Byte)
  | portReset (p : Port) (payload : List Byte)
  | attnRead (p : Port) (payload : List Byte)
  | attnClear (p : Port) (payload : List Byte)
  | attnEnable (p : Port) (payload : List Byte)
  | statusRead (p : Port) (payload : List Byte)
  | settingsRead (p : Port) (payload : List Byte)
  | settingsWrite (p : Port) (payload : List Byte)
  | restart (p : Port) (payload : List Byte)
  | frameError (p : Port) (reason : FrameReason)
  | unknown (p : Port) (kind : Byte)
  | selHigh (p : Port)
  | replyReady (p : Port)
  | intervalTimerExpiry
  | supplyAssertion
  | supplyDeassertion
  | powerUp
  | resetLine
  | enterReady
  | elementStep
  | foldCompletion
  | markPlansStale
  | handDeferredHits
  | clearClosedBank
  | releaseEngine
  | planBuildCompletion
  | historyReadCompletion
  | elementFindCompletion
  | discardTimerExpiry (p : Port)
  | linkByte (p : Port) (received : Byte)
deriving DecidableEq, Repr

end Sys2Proof
end

