-- ==== Sys2Proof/Machine/State.lean ====
section
/-! DEFINITION. The state of the Marlic 2416 as plain data, its value right after power-up of a blank store, and the ways a step can stop. -/

namespace Sys2Proof.Machine

/-! ## Element Table (chapter 1) -/

/-- Tenancy state of a record (R1). -/
inductive ElementState where
  | vacant
  | active
  | suspended
deriving DecidableEq, Repr

/-- Kind of element (Table 1-1). -/
inductive ElementKind where
  | roller
  | belt
deriving DecidableEq, Repr

/-- The five hit flags, bit n of a flag byte for the n-th (R170, Table 4-1). -/
inductive HitFlag where
  | plan
  | limit
  | rateLow
  | rateHigh
  | clipped
deriving DecidableEq, Repr

/-- A set of hit flags: bit 0 PLAN, 1 LIMIT, 2 RATE_LOW, 3 RATE_HIGH, 4 CLIPPED (R170). -/
abbrev FlagSet := BitVec 5

/-- One element record (Table 1-1). -/
structure Element where
  state : ElementState
  kind : ElementKind
  machine : MachineId
  zone : Zone
  duty : Byte
  beltRate : Byte
  wear : Word
  residue : Fin 16
  /-- The smoothed rate R; R/256 wear units per interval. -/
  rate : Word
  /-- The plan threshold P. -/
  planAt : Word
  /-- The limit L. -/
  limit : Word
  rateLow : Half
  rateHigh : Half
  flags : FlagSet
  limitLogged : Bool
  due : Option Interval
  start : Interval
  generation : Generation
  /-- The history head. -/
  head : Option BlockIx
deriving DecidableEq, Repr

/-- An element record of a blank store (Table 1-4). -/
def Element.blank : Element where
  state := .vacant
  kind := .roller
  machine := 0
  zone := 0
  duty := 16
  beltRate := 0
  wear := 0
  residue := 0
  rate := 0
  planAt := 0
  limit := 0
  rateLow := 0
  rateHigh := 0
  flags := 0
  limitLogged := false
  due := none
  start := 0
  generation := 0
  head := none

/-! ## History Pool (chapter 7) -/

/-- A history record's kind with the fields that only some kinds carry (Tables 7-6 and 7-7). -/
inductive HistoryBody where
  | defined (note : Byte)
  | replaced (note : Byte)
  | inspected (note : Byte)
  | corrected (second : Word) (note : Byte)
  | limitReached
deriving DecidableEq, Repr

/-- One history record (R132). -/
structure HistoryRecord where
  interval : Interval
  generation : Generation
  wear : Word
  body : HistoryBody
deriving DecidableEq, Repr

/-- What a record slot holds before anything is written to it. DESIGN CHOICE, unsafe: log 10. -/
def HistoryRecord.blank : HistoryRecord := { interval := 0, generation := 0, wear := 0, body := .defined 0 }

/-- Allocation table entry of one block (Table 7-5). `last top` is LAST(top + 1): the block's slots 0 to `top`
hold records, so every LAST counts 1 to 6 records (R131). -/
inductive AllocEntry where
  | free
  | next (block : BlockIx)
  | last (top : RecordSlot)
deriving DecidableEq, Repr

/-- The 256 blocks of six record slots and the allocation table (R131). -/
structure HistoryPool where
  alloc : Vector AllocEntry 256
  blocks : Vector (Vector HistoryRecord 6) 256
deriving DecidableEq, Repr

/-- The pool of a blank store: every entry FREE (R131). -/
def HistoryPool.blank : HistoryPool where
  alloc := Vector.replicate 256 .free
  blocks := Vector.replicate 256 (Vector.replicate 6 HistoryRecord.blank)

/-! ## Windows, queues and plans (chapters 5 and 6) -/

/-- A window held in a slot (Table 6-1). -/
structure Window where
  start : Interval
  finish : Interval
  capacity : Byte
deriving DecidableEq, Repr

/-- An entry of a due queue (Table 5-1) or of a plan list, where the due is the due at build. -/
structure QueueEntry where
  index : ElementIx
  due : Interval
deriving DecidableEq, Repr

/-- One machine's due queue (Table 5-2); its length is the number of entries. -/
structure DueQueue where
  entries : List QueueEntry
  revision : Half
deriving DecidableEq, Repr

/-- An empty queue at revision 0 (R97). -/
def DueQueue.empty : DueQueue := { entries := [], revision := 0 }

/-- Plan state (R105). -/
inductive PlanState where
  | none
  | fresh
  | stale
deriving DecidableEq, Repr

/-- One machine's plan (Table 6-3). -/
structure Plan where
  state : PlanState
  stamp : Option Interval
  windowLists : Vector (List QueueEntry) 8
  unplaced : List QueueEntry
  overflow : Nat
  beyond : Nat
deriving DecidableEq, Repr

/-- The plan after a reset (R104). -/
def Plan.none : Plan where
  state := .none
  stamp := Option.none
  windowLists := Vector.replicate 8 []
  unplaced := []
  overflow := 0
  beyond := 0

/-! ## Tally banks and Interval Timer (chapter 2) -/

/-- The eight passage cells of one machine and zone and their clip marker (Table 2-1). -/
structure ZoneTally where
  cells : Vector Half 8
  clip : Bool
deriving DecidableEq, Repr

/-- What one bank holds of one machine (Table 2-1). -/
structure MachineTally where
  zones : Vector ZoneTally 16
  runTime : Half
  runClip : Bool
deriving DecidableEq, Repr

/-- One tally bank (R21). -/
abbrev Bank := Vector MachineTally 4

/-- A machine's part of a cleared bank (R32). -/
def MachineTally.zero : MachineTally where
  zones := Vector.replicate 16 { cells := Vector.replicate 8 0, clip := false }
  runTime := 0
  runClip := false

/-- A cleared bank (R32). -/
def Bank.zero : Bank := Vector.replicate 4 MachineTally.zero

/-- The active-bank indicator (Table 2-2). -/
inductive BankId where
  | a
  | b
deriving DecidableEq, Repr

/-- The fold state, with the closed interval it holds: NONE in IDLE (R28). -/
inductive FoldState where
  | idle
  | foldWait (closed : Interval)
  | folding (closed : Interval)
deriving DecidableEq, Repr

/-- The Interval Timer (R34, R35); remaining time in half seconds. -/
inductive IntervalTimer where
  | stopped
  | running (halfSeconds : Nat)
  | expired
deriving DecidableEq, Repr

/-! ## Settings, summary and the store (chapters 3 and 11) -/

/-- Machine mode (R55). -/
inductive Mode where
  | checked
  | unchecked
  | discard
deriving DecidableEq, Repr

/-- A role of a port, bit n of a role set for the n-th (R179). -/
inductive Role where
  | report
  | ack
  | service
  | plan
  | admin
deriving DecidableEq, Repr

/-- Notify policy (Table 4-2). -/
inductive NotifyPolicy where
  | immediate
  | deferred
  | summary
  | none
deriving DecidableEq, Repr

/-- Discard time (R151). -/
inductive DiscardTime where
  | short
  | long
deriving DecidableEq, Repr

/-- Tier bit (R155). -/
inductive Tier where
  | high
  | low
deriving DecidableEq, Repr

/-- Supply policy (R185). -/
inductive SupplyPolicy where
  | fold
  | freeze
deriving DecidableEq, Repr

/-- A set of attention causes, bit n for the cause of code n (R171). -/
abbrev CauseSet := BitVec 11

/-- The settings record (Table 11-2). Tier bits stand in index order: FOLD, then SLOT0 to SLOT3. -/
structure Settings where
  intervalLength : Byte
  weights : Vector Byte 8
  shifts : Vector (Fin 8) 4
  modes : Vector Mode 4
  roles : Vector (BitVec 5) 4
  bindings : Vector (BitVec 4) 4
  policies : Vector NotifyPolicy 4
  enables : Vector CauseSet 4
  discardTimes : Vector DiscardTime 4
  tiers : Vector Tier 5
  supplyPolicy : SupplyPolicy
deriving DecidableEq, Repr

/-- The settings of a blank store (Table 11-2). -/
def Settings.blank : Settings where
  intervalLength := 15
  weights := Vector.replicate 8 1
  shifts := Vector.replicate 4 3
  modes := Vector.replicate 4 .checked
  roles := Vector.replicate 4 0x1F
  bindings := Vector.replicate 4 0xF
  policies := Vector.replicate 4 .immediate
  enables := Vector.replicate 4 0x7FF
  discardTimes := Vector.replicate 4 .long
  tiers := #v[.high, .low, .low, .low, .low]
  supplyPolicy := .fold

/-- The reckoning summary (Table 3-9). -/
structure Summary where
  interval : Interval
  credited : Nat
  rateOnly : Nat
  skipped : Nat
  newHits : Nat
  saturatedCells : Nat
  discarded : Vector Bool 4
deriving DecidableEq, Repr

/-- The summary of a blank store (Table 3-9). -/
def Summary.blank : Summary where
  interval := 0
  credited := 0
  rateOnly := 0
  skipped := 0
  newHits := 0
  saturatedCells := 0
  discarded := Vector.replicate 4 false

/-- Restart origin (R181). -/
inductive RestartOrigin where
  | power
  | line
  | port (p : Port)
deriving DecidableEq, Repr

/-- The supply state, and the level of the SUPLO input (R185). -/
inductive SupplyState where
  | deasserted
  | asserted
deriving DecidableEq, Repr

/-- Whether the part is in start-up (R181) or READY (R183). -/
inductive Phase where
  | starting
  | ready
deriving DecidableEq, Repr

/-! ## Attention Unit (chapter 10) -/

/-- The eleven causes, in priority order; the code is the place (Table 10-1). -/
inductive Cause where
  | supply
  | started
  | limit
  | plan
  | rate
  | clip
  | result
  | discard
  | historyLost
  | planStale
  | reckoned
deriving DecidableEq, Repr

/-- The four hit causes, in priority order (Table 10-1). -/
inductive HitCause where
  | limit
  | plan
  | rate
  | clip
deriving DecidableEq, Repr

/-- A port's hit summary for one hit cause (R173). -/
structure HitSummary where
  count : Half
  lowest : Option ElementIx
deriving DecidableEq, Repr

/-- A cleared hit summary (R173). -/
def HitSummary.clear : HitSummary := { count := 0, lowest := none }

/-- The Attention Unit's record of one port (Table 10-2); the enable set is a settings item. The summaries
stand in priority order LIMIT, PLAN, RATE, CLIP. `line` is true when ATN is asserted. -/
structure PortAttention where
  pending : CauseSet
  summaries : Vector HitSummary 4
  line : Bool
deriving DecidableEq, Repr

/-- A port's record after a reset or PORT_RESET (R177). -/
def PortAttention.clear : PortAttention where
  pending := 0
  summaries := Vector.replicate 4 HitSummary.clear
  line := false

/-! ## The shared engine (chapters 3, 6 and 8) -/

/-- The settings a fold uses (R42, Table 3-1). -/
structure FoldSnapshot where
  weights : Vector Byte 8
  modes : Vector Mode 4
  shifts : Vector (Fin 8) 4
deriving DecidableEq, Repr

/-- The new hits of one machine and one hit cause in the deferred tally (R80). -/
structure TallyEntry where
  count : Nat
  lowest : Option ElementIx
deriving DecidableEq, Repr

/-- The deferred tally of a fold (R80): per machine and hit cause (LIMIT, PLAN, RATE, CLIP), and the machines
with a new hit. -/
structure DeferredTally where
  entries : Vector (Vector TallyEntry 4) 4
  machines : Vector Bool 4
deriving DecidableEq, Repr

/-- The tally when a fold begins (R80). -/
def DeferredTally.empty : DeferredTally where
  entries := Vector.replicate 4 (Vector.replicate 4 { count := 0, lowest := none })
  machines := Vector.replicate 4 false

/-- What a fold does next: the element step of an index (R43) or a stage of completion (Table 3-8). -/
inductive FoldStage where
  | step (n : ElementIx)
  | store
  | markStale
  | handHits
  | clearBank
  | release
deriving DecidableEq, Repr

/-- A fold in progress (R41, R42, R54, R59, R60, R80). -/
structure FoldRun where
  interval : Interval
  snapshot : FoldSnapshot
  stage : FoldStage
  credited : Nat
  rateOnly : Nat
  skipped : Nat
  newHits : Nat
  moved : Vector Bool 4
  expired : Vector Bool 4
  tally : DeferredTally
deriving DecidableEq, Repr

/-- A plan build in progress: its snapshot and watch mark (R109, R110). -/
structure BuildRun where
  machine : MachineId
  windows : Vector (Option Window) 8
  queue : List QueueEntry
  stamp : Interval
  watch : Bool
deriving DecidableEq, Repr

/-- The Reckoning Engine: idle, or its one operation and occupant (R143). A history read and an element find
take nothing at their start (R148): their operation is the slot's copy. -/
inductive Engine where
  | idle
  | fold (run : FoldRun)
  | build (p : Port) (run : BuildRun)
  | lookup (p : Port)
deriving DecidableEq, Repr

/-- A requester of the Engine Arbiter (Table 8-4); also the places of the low rotation. -/
inductive Requester where
  | fold
  | slot (p : Port)
deriving DecidableEq, Repr

/-- A place of the high rotation (R156). -/
inductive HighPlace where
  | requester (r : Requester)
  | low
deriving DecidableEq, Repr

/-- The Engine Arbiter (Table 8-4); the tier bits are settings. The waiting set stands in index order FOLD,
SLOT0 to SLOT3. -/
structure Arbiter where
  high : HighPlace
  low : Requester
  waiting : Vector Bool 5
deriving DecidableEq, Repr

/-- The arbiter after a reset (R155). -/
def Arbiter.reset : Arbiter := { high := .low, low := .fold, waiting := Vector.replicate 5 false }

/-- A long request with its arguments read from the payload (R108, R140, R153). A selector `none` is ANY; a
start `none` is FIRST. -/
inductive LongRequest where
  | planBuild (m : MachineId)
  | historyRead (e : ElementIx) (skip : Fin 24)
  | elementFind (selector : Option MachineId) (flags : FlagSet) (start : Option ElementIx)
deriving DecidableEq, Repr

/-- A slot's request copy: what is asked and the payload bytes compared with a repeat (R145). -/
structure RequestCopy where
  request : LongRequest
  payload : List Byte
deriving DecidableEq, Repr

/-- The result of a long request (R115, R141, R154). -/
inductive LongResult where
  | plan (state : PlanState) (placed unplaced beyond : Nat)
  | history (state : ElementState) (generation : Generation) (records blocks : Nat) (skip : Fin 24)
      (page : List HistoryRecord)
  | find (indices : List ElementIx) (more : Bool)
deriving DecidableEq, Repr

/-- A deferred slot (R144, Table 8-3). READY holds the remaining half seconds of its discard timer (R151). -/
inductive Slot where
  | empty
  | waiting (copy : RequestCopy)
  | running (copy : RequestCopy)
  | ready (copy : RequestCopy) (result : LongResult) (discardIn : Nat)
deriving DecidableEq, Repr

/-! ## Station ports (chapter 9) -/

/-- Level of the SEL input of a port (R159). -/
inductive SelLevel where
  | high
  | low
deriving DecidableEq, Repr

/-- Receive state and buffer (R160, Table 9-1); `sum` is the running sum. -/
inductive Receiver where
  | hunt
  | kind
  | len (kind : Byte) (sum : Byte)
  | payload (kind : Byte) (len : Byte) (bytes : List Byte) (sum : Byte)
  | check (kind : Byte) (bytes : List Byte) (sum : Byte)
  | endMark (kind : Byte) (bytes : List Byte) (sum : Byte)
deriving DecidableEq, Repr

/-- A reply before it is framed; the payload begins with the status byte (R163, R166). -/
structure Reply where
  kind : Byte
  payload : List Byte
deriving DecidableEq, Repr

/-- Transmit state, with the reply the port holds (R163). `sending frame next` has `next` bytes clocked out. -/
inductive Transmitter where
  | fill
  | preparing (reply : Reply)
  | sending (frame : List Byte) (next : Nat)
deriving DecidableEq, Repr

/-- The link of one port: SEL, the last byte clocked out on SDO (none at high impedance), receiver and
transmitter (Table 9-1, R159). -/
structure Link where
  sel : SelLevel
  sdo : Option Byte
  rx : Receiver
  tx : Transmitter
deriving DecidableEq, Repr

/-- A deselected port after a reset (Table 9-5). SEL high is a DESIGN CHOICE, unsafe: log 6. -/
def Link.reset : Link := { sel := .high, sdo := none, rx := .hunt, tx := .fill }

/-! ## The machine -/

/-- The whole state: the nonvolatile store, the volatile state of every block, the pins, and the queue of
waiting commands (INVENTORY.md, State). -/
structure State where
  elements : Vector Element 512
  pool : HistoryPool
  windows : Vector (Vector (Option Window) 8) 4
  /-- F, the last folded interval. -/
  lastFolded : Interval
  summary : Summary
  settings : Settings
  origin : RestartOrigin
  bankA : Bank
  bankB : Bank
  activeBank : BankId
  openInterval : Interval
  foldState : FoldState
  pendingTrigger : Bool
  timer : IntervalTimer
  engine : Engine
  arbiter : Arbiter
  slots : Vector Slot 4
  queues : Vector DueQueue 4
  plans : Vector Plan 4
  attention : Vector PortAttention 4
  links : Vector Link 4
  supply : SupplyState
  /-- The level of the SUPLO input. -/
  supplyPin : SupplyState
  phase : Phase
  /-- The commands that wait, the front first. The model's own field. -/
  pending : List Instr
deriving DecidableEq, Repr

/-- A part with a blank store, right after power-up: in start-up (R181), with the volatile state at the values
R40, R97, R104, R144, R155, R169 and R177 give. DESIGN CHOICE where the spec gives none: log 5, log 6, log 7. -/
def State.reset : State where
  elements := Vector.replicate 512 Element.blank
  pool := HistoryPool.blank
  windows := Vector.replicate 4 (Vector.replicate 8 none)
  lastFolded := 0
  summary := Summary.blank
  settings := Settings.blank
  origin := .power
  bankA := Bank.zero
  bankB := Bank.zero
  activeBank := .a
  openInterval := 1
  foldState := .idle
  pendingTrigger := false
  timer := .stopped
  engine := .idle
  arbiter := Arbiter.reset
  slots := Vector.replicate 4 .empty
  queues := Vector.replicate 4 DueQueue.empty
  plans := Vector.replicate 4 Plan.none
  attention := Vector.replicate 4 PortAttention.clear
  links := Vector.replicate 4 Link.reset
  supply := .deasserted
  supplyPin := .deasserted
  phase := .starting
  pending := []

/-! ## How a step can stop -/

/-- Named stops. Each is raised by an event row of the part's own that stands at the front of the queue where
the spec says the event does not arise; each is safe (log 4). -/
inductive Fault where
  /-- REPLY_READY at a port that is not PREPARING (R163). Safe. -/
  | noReplyPreparing
  /-- INTERVAL_TIMER_EXPIRY while the timer is not RUNNING (R34, R35). Safe. -/
  | timerNotRunning
  /-- ENTER_READY outside start-up (R183). Safe. -/
  | notInStartUp
  /-- ELEMENT_STEP when no fold has an element step to take (R43). Safe. -/
  | noElementStep
  /-- A completion stage when it is not the fold's next stage (R58). Safe. -/
  | stageOutOfTurn
  /-- PLAN_BUILD_COMPLETION when the engine runs no plan build for a RUNNING slot (R114). Safe. -/
  | noPlanBuild
  /-- HISTORY_READ_COMPLETION when the engine runs no history read for a RUNNING slot (R141). Safe. -/
  | noHistoryRead
  /-- ELEMENT_FIND_COMPLETION when the engine runs no element find for a RUNNING slot (R154). Safe. -/
  | noElementFind
  /-- DISCARD_TIMER_EXPIRY at a slot that is not READY (R151). Safe. -/
  | noHeldResult
deriving DecidableEq, Repr

/-- Commands without a meaning. -/
inductive Refusal where
  /-- Raised by an arm of exec whose command has no meaning yet; none is left. Safe. -/
  | notModelled (mnemonic : String)
deriving DecidableEq, Repr

end Sys2Proof.Machine
end

