-- ==== Sys2Proof/Machine/Flags.lean ====
section
/-! DEFINITION. Hit flags, threshold checks (chapter 4), attention causes and the attention line (chapter 10). -/

namespace Sys2Proof.Machine

/-- Bit of a hit flag in a flag set (R170). -/
def HitFlag.bit : HitFlag → Nat
  | .plan => 0
  | .limit => 1
  | .rateLow => 2
  | .rateHigh => 3
  | .clipped => 4

/-- The five flags in the check order of R68. -/
def hitFlags : List HitFlag := [.plan, .limit, .rateLow, .rateHigh, .clipped]

/-- The flag set that holds one flag. -/
def HitFlag.mask (f : HitFlag) : FlagSet := 1#5 <<< f.bit

/-- Whether a flag is set. -/
def hasFlag (flags : FlagSet) (f : HitFlag) : Bool := flags.getLsbD f.bit

/-- The flags with some more set. -/
def setFlags (flags : FlagSet) (hits : List HitFlag) : FlagSet := hits.foldl (fun acc f => acc ||| f.mask) flags

/-- The attention cause of a flag (R78). -/
def HitFlag.cause : HitFlag → HitCause
  | .plan => .plan
  | .limit => .limit
  | .rateLow => .rate
  | .rateHigh => .rate
  | .clipped => .clip

/-- The whole-unit rate: R divided by 256, rounded down (R70). -/
def wholeRate (rate : Word) : Nat := rate.toNat / 256

/-- Whether a check succeeds (R69, R70, R71) on a record as stages 4 to 7 left it, with the clip markers of its
zone and machine in the closed bank. -/
def checkHolds (r : Element) (zoneClip runClip : Bool) : HitFlag → Bool
  | .plan => r.planAt != 0 && r.planAt ≤ r.wear
  | .limit => r.limit != 0 && r.limit ≤ r.wear
  | .rateLow => r.rateHigh != 0 && wholeRate r.rate < r.rateLow.toNat
  | .rateHigh => r.rateHigh != 0 && wholeRate r.rate > r.rateHigh.toNat
  | .clipped => zoneClip || (r.kind == .belt && runClip)

/-- The new hits of stage 8: the checks that succeed on a clear flag, in the order of R68 (R72). -/
def newHits (r : Element) (zoneClip runClip : Bool) : List HitFlag :=
  hitFlags.filter fun f => checkHolds r zoneClip runClip f && !hasFlag r.flags f

/-- Code of a cause: its place in a cause set (Table 10-1). -/
def Cause.code : Cause → Nat
  | .supply => 0
  | .started => 1
  | .limit => 2
  | .plan => 3
  | .rate => 4
  | .clip => 5
  | .result => 6
  | .discard => 7
  | .historyLost => 8
  | .planStale => 9
  | .reckoned => 10

/-- The causes in priority order (Table 10-1). -/
def causes : List Cause :=
  [.supply, .started, .limit, .plan, .rate, .clip, .result, .discard, .historyLost, .planStale, .reckoned]

/-- The cause set that holds one cause. -/
def Cause.mask (c : Cause) : CauseSet := 1#11 <<< c.code

/-- Whether a cause is in a set. -/
def hasCause (set : CauseSet) (c : Cause) : Bool := set.getLsbD c.code

/-- A hit cause as a cause (Table 10-1). -/
def HitCause.cause : HitCause → Cause
  | .limit => .limit
  | .plan => .plan
  | .rate => .rate
  | .clip => .clip

/-- The place of a hit cause among the summaries and in the deferred tally. -/
def HitCause.ix : HitCause → Fin 4
  | .limit => 0
  | .plan => 1
  | .rate => 2
  | .clip => 3

/-- The hit causes in priority order. -/
def hitCauses : List HitCause := [.limit, .plan, .rate, .clip]

/-- The hit cause that a cause is, if it is one (Table 10-1). -/
def Cause.hit : Cause → Option HitCause
  | .limit => some .limit
  | .plan => some .plan
  | .rate => some .rate
  | .clip => some .clip
  | _ => none

/-- The line is asserted exactly when the pending and enable sets share a cause (R171). -/
def lineOf (pending enable : CauseSet) : Bool := (pending &&& enable) != 0

/-- The lower of two lowest indices, where none is no index (R80, R173). -/
def lowerIndex : Option ElementIx → Option ElementIx → Option ElementIx
  | none, b => b
  | a, none => a
  | some a, some b => some (min a b)

/-- A hit summary after `count` more hits of which `lowest` is the lowest index (R173): the count saturates. -/
def HitSummary.add (h : HitSummary) (count : Nat) (lowest : Option ElementIx) : HitSummary where
  count := BitVec.ofNat 16 (min (h.count.toNat + count) Config.maxHalf)
  lowest := lowerIndex h.lowest lowest

end Sys2Proof.Machine
end

