-- ==== Sys2Proof/Machine/History.lean ====
section
/-! DEFINITION. The History Pool: chains, appends, recycling, freeing (chapter 7) and chain repair (R182). -/

namespace Sys2Proof.Machine

/-- The blocks reached from `b` by NEXT entries, at most `fuel` of them, ending at the first LAST (R131). A FREE
entry ends the walk: no chain that meets R131 holds one (log 14). -/
def chainFrom (alloc : Vector AllocEntry 256) : Nat → BlockIx → List BlockIx
  | 0, _ => []
  | fuel + 1, b =>
    match alloc[b] with
    | .free => []
    | .last _ => [b]
    | .next n => b :: chainFrom alloc fuel n

/-- An element's history chain: the blocks from its history head, at most four (R131). -/
def chainOf (alloc : Vector AllocEntry 256) : Option BlockIx → List BlockIx
  | none => []
  | some b => chainFrom alloc Config.maxChainBlocks b

/-- The records of one block of a chain, in slot order (R133). -/
def blockRecords (pool : HistoryPool) (b : BlockIx) : List HistoryRecord :=
  match pool.alloc[b] with
  | .last top => pool.blocks[b].toList.take (top.val + 1)
  | _ => pool.blocks[b].toList

/-- The records of a chain, oldest first (R133). -/
def chainRecords (pool : HistoryPool) (head : Option BlockIx) : List HistoryRecord :=
  (chainOf pool.alloc head).flatMap (blockRecords pool)

/-- The lowest-numbered FREE block (R135). -/
def lowestFree (alloc : Vector AllocEntry 256) : Option BlockIx :=
  (List.finRange 256).find? fun b => alloc[b] = .free

/-- A block given to a chain with one record in its first slot: LAST(1) (R135, R136). -/
def HistoryPool.openBlock (pool : HistoryPool) (b : BlockIx) (h : HistoryRecord) : HistoryPool where
  alloc := pool.alloc.set b (.last 0)
  blocks := pool.blocks.set b (pool.blocks[b].set 0 h)

/-- An append into the LAST block, at the slot after `top` (R134). -/
def HistoryPool.fillSlot (pool : HistoryPool) (b : BlockIx) (slot : RecordSlot) (h : HistoryRecord) :
    HistoryPool where
  alloc := pool.alloc.set b (.last slot)
  blocks := pool.blocks.set b (pool.blocks[b].set slot h)

/-- A block's entry made NEXT of another (R135, R136). -/
def HistoryPool.link (pool : HistoryPool) (old next : BlockIx) : HistoryPool :=
  { pool with alloc := pool.alloc.set old (.next next) }

/-- Recycling (R136): a chain of two blocks or more moves its head block to its tail; a shorter chain has no
block to give and the record is dropped (R137). -/
def recycle (pool : HistoryPool) (tail : BlockIx) (h : HistoryRecord) :
    List BlockIx → Option (HistoryPool × Option BlockIx)
  | first :: second :: _ => some ((pool.link tail first).openBlock first h, some second)
  | _ => none

/-- An append to the chain of a history head (Table 7-8): the pool and the head after it, or none when the record
is dropped (R137). -/
def append (pool : HistoryPool) (head : Option BlockIx) (h : HistoryRecord) :
    Option (HistoryPool × Option BlockIx) :=
  let blocks := chainOf pool.alloc head
  match blocks.getLast? with
  | none =>
    match lowestFree pool.alloc with
    | some b => some (pool.openBlock b h, some b)
    | none => none
  | some tail =>
    match pool.alloc[tail] with
    | .last top =>
      if room : top.val < 5 then some (pool.fillSlot tail ⟨top.val + 1, by omega⟩ h, head)
      else if blocks.length < Config.maxChainBlocks then
        match lowestFree pool.alloc with
        | some b => some ((pool.link tail b).openBlock b h, head)
        | none => recycle pool tail h blocks
      else recycle pool tail h blocks
    | _ => none

/-- The allocation table with every block of a chain returned to FREE (R139). -/
def freeBlocks (alloc : Vector AllocEntry 256) (blocks : List BlockIx) : Vector AllocEntry 256 :=
  blocks.foldl (fun (a : Vector AllocEntry 256) (b : BlockIx) => a.set b .free) alloc

/-! ## Chain repair at start-up (R182) -/

/-- What the repair walk has done so far: the allocation table, the visited blocks, the records whose history head
becomes NONE. -/
structure Repair where
  alloc : Vector AllocEntry 256
  visited : Vector Bool 256
  dropped : List ElementIx
deriving DecidableEq, Repr

/-- The blocks a repair walk keeps from `b`: it stops before a FREE block, before a visited block, before a fifth
block, and after a LAST (R182). -/
def keptBlocks (alloc : Vector AllocEntry 256) : Nat → Vector Bool 256 → BlockIx → List BlockIx
  | 0, _, _ => []
  | fuel + 1, visited, b =>
    if visited[b] then []
    else
      match alloc[b] with
      | .free => []
      | .last _ => [b]
      | .next n => b :: keptBlocks alloc fuel (visited.set b true) n

/-- The last block kept becomes LAST: LAST(6) if its entry was NEXT (R182). -/
def closeChain (alloc : Vector AllocEntry 256) (b : BlockIx) : Vector AllocEntry 256 :=
  match alloc[b] with
  | .next _ => alloc.set b (.last 5)
  | _ => alloc

/-- Repair of the chain of one element record (R182). -/
def repairRecord (rp : Repair) (e : ElementIx) (r : Element) : Repair :=
  match r.head with
  | none => rp
  | some head =>
    match r.state with
    | .vacant => { rp with dropped := e :: rp.dropped }
    | _ =>
      let kept := keptBlocks rp.alloc Config.maxChainBlocks rp.visited head
      match kept.getLast? with
      | none => { rp with dropped := e :: rp.dropped }
      | some tail =>
        { rp with alloc := closeChain rp.alloc tail,
                  visited := kept.foldl (fun (v : Vector Bool 256) (b : BlockIx) => v.set b true) rp.visited }

/-- The walk over all 512 records in ascending index order (R182). -/
def repairWalk (elements : Vector Element 512) (alloc : Vector AllocEntry 256) : Repair :=
  (List.finRange 512).foldl (fun rp e => repairRecord rp e elements[e])
    { alloc := alloc, visited := Vector.replicate 256 false, dropped := [] }

/-- After the walk, every block that is not FREE and was not visited becomes FREE (R182). -/
def Repair.freeUnvisited (rp : Repair) : Vector AllocEntry 256 :=
  Vector.ofFn fun b => if rp.visited[b] then rp.alloc[b] else .free

/-- The records with the heads that the walk dropped set to NONE (R182). -/
def Repair.dropHeads (rp : Repair) (elements : Vector Element 512) : Vector Element 512 :=
  rp.dropped.foldl (fun (es : Vector Element 512) (e : ElementIx) => es.set e { es[e] with head := none }) elements

end Sys2Proof.Machine
end

