-- ==== Sys2Proof/Decode.lean ====
section
/-! DEFINITION. The catalogue of request kinds (Table 9-4), the row a complete frame spells, and the table-word decoder. -/

namespace Sys2Proof

/-- The KIND byte of a request (Table 9-4). -/
def RequestKind.code : RequestKind → Byte
  | .elementDefine => 0x10#8
  | .elementVacate => 0x11#8
  | .elementSuspend => 0x12#8
  | .elementResume => 0x13#8
  | .limitsSet => 0x14#8
  | .hitsAck => 0x15#8
  | .elementRead => 0x16#8
  | .passReport => 0x20#8
  | .runReport => 0x21#8
  | .reckonNow => 0x22#8
  | .modeSet => 0x30#8
  | .queueRead => 0x38#8
  | .windowSet => 0x40#8
  | .windowDrop => 0x41#8
  | .planBuild => 0x42#8
  | .planRead => 0x43#8
  | .servicePost => 0x50#8
  | .historyRead => 0x51#8
  | .elementFind => 0x58#8
  | .portReset => 0x60#8
  | .attnRead => 0x68#8
  | .attnClear => 0x69#8
  | .attnEnable => 0x6A#8
  | .statusRead => 0x70#8
  | .settingsRead => 0x71#8
  | .settingsWrite => 0x72#8
  | .restart => 0x73#8

/-- The reason code of a FRAME_ERROR reply (R166). -/
def FrameReason.code : FrameReason → Byte
  | .length => 1
  | .endMark => 2
  | .check => 3

/-- Every kind of Table 9-4, in its order. -/
def requestKinds : List RequestKind :=
  [.elementDefine, .elementVacate, .elementSuspend, .elementResume, .limitsSet, .hitsAck, .elementRead,
   .passReport, .runReport, .reckonNow, .modeSet, .queueRead, .windowSet, .windowDrop, .planBuild, .planRead,
   .servicePost, .historyRead, .elementFind, .portReset, .attnRead, .attnClear, .attnEnable, .statusRead,
   .settingsRead, .settingsWrite, .restart]

/-- The catalogue look-up of R162's first gate: none for a KIND that Table 9-4 does not list. -/
def requestKindOf (kind : Byte) : Option RequestKind :=
  requestKinds.find? fun k => k.code == kind

/-- The three rows of SERVICE_POST (Table 7-1). -/
inductive PostForm where
  | replacement
  | inspection
  | correction
deriving DecidableEq, Repr

/-- The post kind byte of a form: 0 REPLACED, 1 INSPECTED (R170). -/
def PostForm.kindByte : PostForm → Byte
  | .replacement => 0
  | .inspection => 1
  | .correction => 1

/-- The presence byte of a form's corrected wear (R170, Table 7-1). -/
def PostForm.presenceByte : PostForm → Byte
  | .replacement => 0
  | .inspection => 0
  | .correction => 1

/-- The row a SERVICE_POST payload spells, by its post kind byte (offset 3) and presence byte (offset 5):
post kind 0 is the replacement row; presence 1 otherwise the correction row; the rest the inspection row
(R170, Table 7-1). A payload that spells no form goes to a row whose argument check refuses it (log 2). -/
def postRow (payload : List Byte) : PostForm :=
  if payload.getD 3 0xFF#8 = 0#8 then .replacement
  else if payload.getD 5 0#8 = 1#8 then .correction
  else .inspection

/-- The row that a complete frame of kind `k` with this payload spells at port `p` (R162). -/
def requestOfFrame (p : Port) (payload : List Byte) : RequestKind → Instr
  | .elementDefine => .elementDefine p payload
  | .elementVacate => .elementVacate p payload
  | .elementSuspend => .elementSuspend p payload
  | .elementResume => .elementResume p payload
  | .limitsSet => .limitsSet p payload
  | .hitsAck => .hitsAck p payload
  | .elementRead => .elementRead p payload
  | .passReport => .passReport p payload
  | .runReport => .runReport p payload
  | .reckonNow => .reckonNow p payload
  | .modeSet => .modeSet p payload
  | .queueRead => .queueRead p payload
  | .windowSet => .windowSet p payload
  | .windowDrop => .windowDrop p payload
  | .planBuild => .planBuild p payload
  | .planRead => .planRead p payload
  | .servicePost =>
    match postRow payload with
    | .replacement => .servicePostReplaced p payload
    | .inspection => .servicePostInspected p payload
    | .correction => .servicePostCorrected p payload
  | .historyRead => .historyRead p payload
  | .elementFind => .elementFind p payload
  | .portReset => .portReset p payload
  | .attnRead => .attnRead p payload
  | .attnClear => .attnClear p payload
  | .attnEnable => .attnEnable p payload
  | .statusRead => .statusRead p payload
  | .settingsRead => .settingsRead p payload
  | .settingsWrite => .settingsWrite p payload
  | .restart => .restart p payload

/-- The command that a table word spells. No row of spec/opcode_table.json gives bits ("fields" is empty in
all 50), so no word spells a command (log 19). -/
def decodeTableWord (nbits w : Nat) : Option Instr :=
  match nbits, w with
  | _, _ => none

end Sys2Proof
end

