-- ==== Sys2Proof/Machine/Operands.lean ====
section
/-! DEFINITION. Field encodings (R170), the argument checks of every request (Tables 1-5, 2-3, 6-2, 7-2 and the lists
of R56, R108, R140, R153, R179), and the layouts of frames and replies. -/

namespace Sys2Proof.Machine

/-! ## Multi-byte fields (R170): most significant byte first -/

def be16 (hi lo : Byte) : Half := hi ++ lo

def be32 (b3 b2 b1 b0 : Byte) : Word := (b3 ++ b2) ++ (b1 ++ b0)

def bytes16 (w : Half) : List Byte := [w.extractLsb' 8 8, w.extractLsb' 0 8]

def bytes32 (w : Word) : List Byte :=
  [w.extractLsb' 24 8, w.extractLsb' 16 8, w.extractLsb' 8 8, w.extractLsb' 0 8]

/-- A whole number in one byte (R170). -/
def byteOf (n : Nat) : Byte := BitVec.ofNat 8 n

/-- A whole number in two bytes (R170). -/
def halfBytes (n : Nat) : List Byte := bytes16 (BitVec.ofNat 16 n)

/-- A yes-or-no value (R170). -/
def boolByte (b : Bool) : Byte := if b then 1 else 0

/-- An interval number that may be NONE: a presence byte, then four bytes (R170). -/
def dueBytes : Option Interval → List Byte
  | none => [0, 0, 0, 0, 0]
  | some d => 1 :: bytes32 d

/-- A block number that may be NONE (R170, Table 9-6). -/
def headBytes : Option BlockIx → List Byte
  | none => [0, 0]
  | some b => [1, byteOf b.val]

/-- An element index that may be none (R174). -/
def lowestBytes : Option ElementIx → List Byte
  | none => [0, 0, 0]
  | some e => 1 :: halfBytes e.val

/-- A set of machines: bits 0 to 3 for M0 to M3 (R170). -/
def machineSetByte (v : Vector Bool 4) : Byte :=
  byteOf (v[0].toNat + 2 * v[1].toNat + 4 * v[2].toNat + 8 * v[3].toNat)

/-! ## Codes of enumerated values (R170, Table 9-6, Table 11-2) -/

def ElementState.code : ElementState → Byte
  | .vacant => 0
  | .active => 1
  | .suspended => 2

def ElementKind.code : ElementKind → Byte
  | .roller => 0
  | .belt => 1

def PlanState.code : PlanState → Byte
  | .none => 0
  | .fresh => 1
  | .stale => 2

def Slot.code : Slot → Byte
  | .empty => 0
  | .waiting _ => 1
  | .running _ => 2
  | .ready _ _ _ => 3

def FoldState.code : FoldState → Byte
  | .idle => 0
  | .foldWait _ => 1
  | .folding _ => 2

def BankId.code : BankId → Byte
  | .a => 0
  | .b => 1

def IntervalTimer.code : IntervalTimer → Byte
  | .stopped => 0
  | .running _ => 1
  | .expired => 2

def SupplyState.code : SupplyState → Byte
  | .deasserted => 0
  | .asserted => 1

def RestartOrigin.code : RestartOrigin → Byte
  | .power => 0
  | .line => 1
  | .port p => byteOf (2 + p.val)

def Mode.code : Mode → Byte
  | .checked => 0
  | .unchecked => 1
  | .discard => 2

def NotifyPolicy.code : NotifyPolicy → Byte
  | .immediate => 0
  | .deferred => 1
  | .summary => 2
  | .none => 3

def DiscardTime.code : DiscardTime → Byte
  | .short => 0
  | .long => 1

def Tier.code : Tier → Byte
  | .high => 0
  | .low => 1

def SupplyPolicy.code : SupplyPolicy → Byte
  | .fold => 0
  | .freeze => 1

/-- The status codes of Table 9-3. -/
inductive Status where
  | ok
  | clamped
  | pending
  | busy
  | denied
  | badArg
  | stale
  | vacant
  | occupied
  | held
  | starting
  | frameError
  | unknown
deriving DecidableEq, Repr

def Status.code : Status → Byte
  | .ok => 0x00
  | .clamped => 0x01
  | .pending => 0x02
  | .busy => 0x03
  | .denied => 0x04
  | .badArg => 0x05
  | .stale => 0x06
  | .vacant => 0x07
  | .occupied => 0x08
  | .held => 0x09
  | .starting => 0x0A
  | .frameError => 0x0B
  | .unknown => 0x0C

/-- A reply's status and the payload after it (R166). -/
structure Answer where
  status : Status
  body : List Byte
deriving DecidableEq, Repr

/-- A refusal whose rule names no payload: the status byte alone (R166). -/
def refuse (st : Status) : Answer := { status := st, body := [] }

/-! ## Single arguments in range (check 2 of the owning tables) -/

/-- A number below `n` as an index, none when it is out of range. -/
def indexArg (n v : Nat) : Option (Fin n) := if h : v < n then some ⟨v, h⟩ else none

def elementArg (hi lo : Byte) : Option ElementIx := indexArg 512 (be16 hi lo).toNat

def machineArg (b : Byte) : Option MachineId := indexArg 4 b.toNat

def zoneArg (b : Byte) : Option Zone := indexArg 16 b.toNat

def kindArg (b : Byte) : Option ElementKind :=
  if b = 0 then some .roller else if b = 1 then some .belt else none

def modeArg (b : Byte) : Option Mode :=
  if b = 0 then some .checked else if b = 1 then some .unchecked else if b = 2 then some .discard else none

/-- A flag byte with bit 5, 6 or 7 set fails the argument check (R170). -/
def flagsArg (b : Byte) : Option FlagSet := if b.toNat < 32 then some (b.extractLsb' 0 5) else none

/-- A cause set with any of bits 11 to 15 set fails the argument check (R171). -/
def causesArg (hi lo : Byte) : Option CauseSet :=
  if (be16 hi lo).toNat < 2048 then some ((be16 hi lo).extractLsb' 0 11) else none

/-- Rate low is not greater than rate high unless rate high is 0 (check 2 of Table 1-5). -/
def rateWindowOk (low high : Half) : Bool := high == 0 || low ≤ high

/-! ## The arguments of each request -/

/-- ELEMENT_DEFINE (section 1.6), 19 payload bytes. -/
structure DefineArgs where
  index : ElementIx
  kind : ElementKind
  machine : MachineId
  zone : Zone
  duty : Byte
  beltRate : Byte
  planAt : Word
  limit : Word
  rateLow : Half
  rateHigh : Half
deriving DecidableEq, Repr

def defineArgs : List Byte → Option DefineArgs
  | [i1, i0, k, m, z, d, b, p3, p2, p1, p0, l3, l2, l1, l0, lo1, lo0, hi1, hi0] =>
    match elementArg i1 i0, kindArg k, machineArg m, zoneArg z, rateWindowOk (be16 lo1 lo0) (be16 hi1 hi0) with
    | some e, some kind, some machine, some zone, true =>
      some { index := e, kind := kind, machine := machine, zone := zone, duty := d, beltRate := b,
             planAt := be32 p3 p2 p1 p0, limit := be32 l3 l2 l1 l0,
             rateLow := be16 lo1 lo0, rateHigh := be16 hi1 hi0 }
    | _, _, _, _, _ => none
  | _ => none

/-- ELEMENT_VACATE, ELEMENT_SUSPEND, ELEMENT_RESUME: index and generation, 3 payload bytes. -/
def tenancyArgs : List Byte → Option (ElementIx × Generation)
  | [i1, i0, g] =>
    match elementArg i1 i0 with
    | some e => some (e, g)
    | none => none
  | _ => none

/-- The four values of LIMITS_SET (section 1.9). -/
structure LimitValues where
  planAt : Word
  limit : Word
  rateLow : Half
  rateHigh : Half
deriving DecidableEq, Repr

/-- LIMITS_SET, 15 payload bytes. -/
def limitsArgs : List Byte → Option (ElementIx × Generation × LimitValues)
  | [i1, i0, g, p3, p2, p1, p0, l3, l2, l1, l0, lo1, lo0, hi1, hi0] =>
    match elementArg i1 i0, rateWindowOk (be16 lo1 lo0) (be16 hi1 hi0) with
    | some e, true =>
      some (e, g, { planAt := be32 p3 p2 p1 p0, limit := be32 l3 l2 l1 l0,
                    rateLow := be16 lo1 lo0, rateHigh := be16 hi1 hi0 })
    | _, _ => none
  | _ => none

/-- HITS_ACK, 4 payload bytes. -/
def ackArgs : List Byte → Option (ElementIx × Generation × FlagSet)
  | [i1, i0, g, f] =>
    match elementArg i1 i0, flagsArg f with
    | some e, some flags => some (e, g, flags)
    | _, _ => none
  | _ => none

/-- ELEMENT_READ, 2 payload bytes. -/
def elementReadArgs : List Byte → Option ElementIx
  | [i1, i0] => elementArg i1 i0
  | _ => none

/-- One entry of a PASS_REPORT. -/
structure PassEntry where
  zone : Zone
  itemClass : ItemClass
  count : Byte
deriving DecidableEq, Repr

/-- The entries of a PASS_REPORT, three bytes each; none when one is out of range or bytes are left over. -/
def passEntries : List Byte → Option (List PassEntry)
  | [] => some []
  | z :: c :: n :: rest =>
    match zoneArg z, indexArg 8 c.toNat, passEntries rest with
    | some zone, some cls, some more =>
      if n = 0 then none else some ({ zone := zone, itemClass := cls, count := n } :: more)
    | _, _, _ => none
  | _ => none

/-- PASS_REPORT: machine, entry count 1 to 8, then the entries; LEN is 2 + 3n (Table 9-6). -/
def passArgs : List Byte → Option (MachineId × List PassEntry)
  | m :: n :: rest =>
    match machineArg m, passEntries rest with
    | some machine, some entries =>
      if 1 ≤ n.toNat ∧ n.toNat ≤ 8 ∧ entries.length = n.toNat then some (machine, entries) else none
    | _, _ => none
  | _ => none

/-- RUN_REPORT: machine and seconds 1 to 255. -/
def runArgs : List Byte → Option (MachineId × Byte)
  | [m, t] =>
    match machineArg m with
    | some machine => if t = 0 then none else some (machine, t)
    | none => none
  | _ => none

/-- A request without payload: any other length fails its argument check (R162). -/
def noArgs : List Byte → Option Unit
  | [] => some ()
  | _ => none

/-- MODE_SET (R56). -/
def modeArgs : List Byte → Option (MachineId × Mode)
  | [m, v] =>
    match machineArg m, modeArg v with
    | some machine, some mode => some (machine, mode)
    | _, _ => none
  | _ => none

/-- QUEUE_READ: machine and position 0 to 511 (R94). -/
def queueArgs : List Byte → Option (MachineId × Fin 512)
  | [m, p1, p0] =>
    match machineArg m, indexArg 512 (be16 p1 p0).toNat with
    | some machine, some position => some (machine, position)
    | _, _ => none
  | _ => none

/-- WINDOW_SET: start not greater than end, capacity not 0 (check 2 of Table 6-2). -/
def windowSetArgs : List Byte → Option (MachineId × WindowSlot × Window)
  | [m, w, s3, s2, s1, s0, e3, e2, e1, e0, c] =>
    match machineArg m, indexArg 8 w.toNat with
    | some machine, some slot =>
      if be32 s3 s2 s1 s0 ≤ be32 e3 e2 e1 e0 ∧ c ≠ 0 then
        some (machine, slot, { start := be32 s3 s2 s1 s0, finish := be32 e3 e2 e1 e0, capacity := c })
      else none
    | _, _ => none
  | _ => none

/-- WINDOW_DROP: machine and slot. -/
def windowDropArgs : List Byte → Option (MachineId × WindowSlot)
  | [m, w] =>
    match machineArg m, indexArg 8 w.toNat with
    | some machine, some slot => some (machine, slot)
    | _, _ => none
  | _ => none

/-- PLAN_BUILD: one machine (R108). -/
def planBuildArgs : List Byte → Option MachineId
  | [m] => machineArg m
  | _ => none

/-- The list a PLAN_READ selects: a slot's window list, or UNPLACED (R119). -/
inductive PlanList where
  | window (slot : WindowSlot)
  | unplaced
deriving DecidableEq, Repr

/-- The list selector: 0 to 7, or 8 for UNPLACED (R170). -/
def planListArg (b : Byte) : Option PlanList :=
  if b = 8 then some .unplaced
  else
    match indexArg 8 b.toNat with
    | some slot => some (.window slot)
    | none => none

/-- PLAN_READ: machine, list selector, position 0 to 31 (R119). -/
def planReadArgs : List Byte → Option (MachineId × PlanList × Fin 32)
  | [m, l, p] =>
    match machineArg m, planListArg l, indexArg 32 p.toNat with
    | some machine, some list, some position => some (machine, list, position)
    | _, _, _ => none
  | _ => none

/-- The arguments of a SERVICE_POST (section 7.1). -/
structure PostArgs where
  index : ElementIx
  generation : Generation
  note : Byte
  corrected : Word
deriving DecidableEq, Repr

/-- SERVICE_POST in one of its forms: 10 payload bytes; the post kind and presence bytes must spell that form.
REPLACED with corrected wear is refused (Table 7-1), as is a presence byte other than 0 or 1 (log 11). -/
def postArgs (form : PostForm) : List Byte → Option PostArgs
  | [i1, i0, g, k, n, c, w3, w2, w1, w0] =>
    match elementArg i1 i0 with
    | some e =>
      if k = form.kindByte ∧ c = form.presenceByte then
        some { index := e, generation := g, note := n, corrected := be32 w3 w2 w1 w0 }
      else none
    | none => none
  | _ => none

/-- HISTORY_READ: index and skip count 0 to 23 (R140). -/
def historyReadArgs : List Byte → Option (ElementIx × Fin 24)
  | [i1, i0, k] =>
    match elementArg i1 i0, indexArg 24 k.toNat with
    | some e, some skip => some (e, skip)
    | _, _ => none
  | _ => none

/-- The machine selector: 0 to 3, or 4 for ANY, here `some none` (R170). -/
def selectorArg (b : Byte) : Option (Option MachineId) :=
  if b = 4 then some none
  else
    match machineArg b with
    | some machine => some (some machine)
    | none => none

/-- The start index: 0 to 511, or 0xFFFF for FIRST, here `some none` (R170). -/
def startArg (hi lo : Byte) : Option (Option ElementIx) :=
  if be16 hi lo = 0xFFFF then some none
  else
    match elementArg hi lo with
    | some e => some (some e)
    | none => none

/-- ELEMENT_FIND: selector, a non-empty flag set, start index (R153). -/
def findArgs : List Byte → Option LongRequest
  | [m, f, i1, i0] =>
    match selectorArg m, flagsArg f, startArg i1 i0 with
    | some selector, some flags, some start =>
      if flags = 0 then none else some (.elementFind selector flags start)
    | _, _, _ => none
  | _ => none

/-- ATTN_CLEAR and ATTN_ENABLE: a cause set (R171). -/
def causeArgs : List Byte → Option CauseSet
  | [c1, c0] => causesArg c1 c0
  | _ => none

/-- A settings item with its index in range (Table 11-2); the requester of a tier bit by its index. -/
inductive SettingItem where
  | intervalLength
  | classWeight (c : ItemClass)
  | smoothingShift (m : MachineId)
  | machineMode (m : MachineId)
  | roleSet (p : Port)
  | binding (p : Port)
  | notifyPolicy (p : Port)
  | enableSet (p : Port)
  | discardTime (p : Port)
  | tierBit (r : Fin 5)
  | supplyPolicy
deriving DecidableEq, Repr

/-- The item a code and an index name; none when either is out of Table 11-2's range (R179, R180). -/
def settingItem (code index : Byte) : Option SettingItem :=
  match code.toNat with
  | 1 => (indexArg 1 index.toNat).map fun _ => .intervalLength
  | 2 => (indexArg 8 index.toNat).map .classWeight
  | 3 => (indexArg 4 index.toNat).map .smoothingShift
  | 4 => (indexArg 4 index.toNat).map .machineMode
  | 5 => (indexArg 4 index.toNat).map .roleSet
  | 6 => (indexArg 4 index.toNat).map .binding
  | 7 => (indexArg 4 index.toNat).map .notifyPolicy
  | 8 => (indexArg 4 index.toNat).map .enableSet
  | 9 => (indexArg 4 index.toNat).map .discardTime
  | 10 => (indexArg 5 index.toNat).map .tierBit
  | 11 => (indexArg 1 index.toNat).map fun _ => .supplyPolicy
  | _ => none

/-- SETTINGS_READ: item code and index, kept for the reply (R180). -/
def settingsReadArgs : List Byte → Option (SettingItem × Byte × Byte)
  | [c, i] =>
    match settingItem c i with
    | some item => some (item, c, i)
    | none => none
  | _ => none

/-- SETTINGS_WRITE: item code, index and a value of two bytes (R179). -/
def settingsWriteArgs : List Byte → Option (SettingItem × Byte × Byte × Half)
  | [c, i, v1, v0] =>
    match settingItem c i with
    | some item => some (item, c, i, be16 v1 v0)
    | none => none
  | _ => none

/-! ## Frames and replies -/

/-- The sum of KIND, LEN and payload, modulo 256 (R161, R163). -/
def frameSum (kind : Byte) (payload : List Byte) : Byte :=
  payload.foldl (· + ·) (kind + byteOf payload.length)

/-- A frame around a kind and payload, with CHECK chosen so that KIND, LEN, payload and CHECK sum to 0 modulo
256 (R163, Table 9-6). -/
def frameBytes (kind : Byte) (payload : List Byte) : List Byte :=
  Config.frameStart :: kind :: byteOf payload.length :: (payload ++ [0 - frameSum kind payload, Config.frameEnd])

/-- The ELEMENT_READ reply after the status (Table 9-6); every field after the generation is 0 for a VACANT
record (R18). -/
def elementBytes (e : ElementIx) (r : Element) : List Byte :=
  halfBytes e.val ++ [r.state.code, r.generation] ++
  match r.state with
  | .vacant => List.replicate 39 0
  | _ =>
    [r.kind.code, byteOf r.machine.val, byteOf r.zone.val, r.duty, r.beltRate] ++ bytes32 r.wear ++
    [byteOf r.residue.val] ++ bytes32 r.rate ++ bytes32 r.planAt ++ bytes32 r.limit ++ bytes16 r.rateLow ++
    bytes16 r.rateHigh ++ [r.flags.setWidth 8, boolByte r.limitLogged] ++ dueBytes r.due ++ bytes32 r.start ++
    headBytes r.head

/-- One history record in a reply (Table 9-6). -/
def HistoryRecord.bytes (h : HistoryRecord) : List Byte :=
  let common := bytes32 h.interval ++ [h.generation] ++ bytes32 h.wear
  match h.body with
  | .defined note => 0 :: (common ++ [note])
  | .replaced note => 1 :: (common ++ [note])
  | .inspected note => 2 :: (common ++ [note])
  | .corrected second note => 3 :: (common ++ bytes32 second ++ [note])
  | .limitReached => 4 :: common

/-- Queue or plan entries in a reply: index and due each (R94, R119). -/
def entryBytes (l : List QueueEntry) : List Byte :=
  l.flatMap fun e => halfBytes e.index.val ++ bytes32 e.due

/-- A long request's result as its reply carries it after the status (R115, R141, R154, Table 9-6; widths log 12). -/
def LongResult.bytes : LongResult → List Byte
  | .plan st placed unplaced beyond => [st.code] ++ halfBytes placed ++ halfBytes unplaced ++ halfBytes beyond
  | .history st g records blocks skip page =>
    [st.code, g, byteOf records, byteOf blocks, byteOf skip.val, byteOf page.length] ++
      page.flatMap HistoryRecord.bytes
  | .find indices more =>
    halfBytes indices.length ++ indices.flatMap (fun e => halfBytes e.val) ++ [boolByte more]

/-- The KIND of a long request (Table 9-4). -/
def LongRequest.kind : LongRequest → RequestKind
  | .planBuild _ => .planBuild
  | .historyRead _ _ => .historyRead
  | .elementFind _ _ _ => .elementFind

/-- The reckoning summary as STATUS_READ returns it (R184, Table 3-9). -/
def Summary.bytes (s : Summary) : List Byte :=
  bytes32 s.interval ++ halfBytes s.credited ++ halfBytes s.rateOnly ++ halfBytes s.skipped ++
    halfBytes s.newHits ++ [byteOf s.saturatedCells, machineSetByte s.discarded]

/-! ## Requests spelled as payload bytes, the inverse of the argument readers -/

def DefineArgs.bytes (a : DefineArgs) : List Byte :=
  halfBytes a.index.val ++ [a.kind.code, byteOf a.machine.val, byteOf a.zone.val, a.duty, a.beltRate] ++
    bytes32 a.planAt ++ bytes32 a.limit ++ bytes16 a.rateLow ++ bytes16 a.rateHigh

def tenancyBytes (e : ElementIx) (g : Generation) : List Byte := halfBytes e.val ++ [g]

def limitsBytes (e : ElementIx) (g : Generation) (v : LimitValues) : List Byte :=
  halfBytes e.val ++ [g] ++ bytes32 v.planAt ++ bytes32 v.limit ++ bytes16 v.rateLow ++ bytes16 v.rateHigh

def ackBytes (e : ElementIx) (g : Generation) (f : FlagSet) : List Byte := halfBytes e.val ++ [g, f.setWidth 8]

def PassEntry.bytes (n : PassEntry) : List Byte := [byteOf n.zone.val, byteOf n.itemClass.val, n.count]

def passBytes (m : MachineId) (l : List PassEntry) : List Byte :=
  byteOf m.val :: byteOf l.length :: l.flatMap PassEntry.bytes

def windowSetBytes (m : MachineId) (w : WindowSlot) (v : Window) : List Byte :=
  [byteOf m.val, byteOf w.val] ++ bytes32 v.start ++ bytes32 v.finish ++ [v.capacity]

def postBytes (form : PostForm) (a : PostArgs) : List Byte :=
  halfBytes a.index.val ++
    [a.generation, form.kindByte, a.note, form.presenceByte] ++ bytes32 a.corrected

end Sys2Proof.Machine
end

