-- ==== Sys2Proof/Machine/Planning.lean ====
section
/-! DEFINITION. The order of a due queue (R85 to R88, R97) and the placement of a plan build (R111 to R113). -/

namespace Sys2Proof.Machine

/-! ## Due queues -/

/-- An entry stands before another: lower due, or equal due and lower index (R85). -/
def QueueEntry.before (a b : QueueEntry) : Bool :=
  a.due < b.due || (a.due == b.due && a.index < b.index)

/-- An entry put at the place that its due and index give (R85, R87). -/
def insertEntry (e : QueueEntry) : List QueueEntry → List QueueEntry
  | [] => [e]
  | x :: rest => if e.before x then e :: x :: rest else x :: insertEntry e rest

/-- The entries without those of one index. -/
def withoutIndex (ix : ElementIx) (l : List QueueEntry) : List QueueEntry := l.filter fun x => x.index ≠ ix

/-- The entry of an index, if present. -/
def findEntry (ix : ElementIx) (l : List QueueEntry) : Option QueueEntry := l.find? fun x => x.index = ix

/-- A PLACE notice (R87, Table 5-3); each change raises the revision by one modulo 65,536 (R88). -/
def DueQueue.place (q : DueQueue) (ix : ElementIx) (due : Option Interval) : DueQueue :=
  match findEntry ix q.entries, due with
  | some e, some d =>
    if e.due = d then q
    else { entries := insertEntry { index := ix, due := d } (withoutIndex ix q.entries), revision := q.revision + 1 }
  | none, some d => { entries := insertEntry { index := ix, due := d } q.entries, revision := q.revision + 1 }
  | some _, none => { entries := withoutIndex ix q.entries, revision := q.revision + 1 }
  | none, none => q

/-- A REMOVE notice (R87, Table 5-3). -/
def DueQueue.remove (q : DueQueue) (ix : ElementIx) : DueQueue :=
  match findEntry ix q.entries with
  | some _ => { entries := withoutIndex ix q.entries, revision := q.revision + 1 }
  | none => q

/-- The rebuild of one machine's queue at start-up: every ACTIVE record of the machine with a due, in ascending
index order (R97). -/
def rebuildQueue (elements : Vector Element 512) (m : MachineId) : DueQueue where
  entries :=
    (List.finRange 512).foldl
      (fun q e =>
        match elements[e].state, elements[e].due with
        | .active, some d => if elements[e].machine = m then insertEntry { index := e, due := d } q else q
        | _, _ => q) []
  revision := 0

/-! ## Placement -/

/-- The lists and counts of a build in the making. -/
structure Placement where
  lists : Vector (List QueueEntry) 8
  unplaced : List QueueEntry
  overflow : Nat
  beyond : Nat
deriving DecidableEq, Repr

def Placement.empty : Placement where
  lists := Vector.replicate 8 []
  unplaced := []
  overflow := 0
  beyond := 0

/-- The horizon: the greatest end among the HELD slots of the snapshot, none without a HELD slot (R111). -/
def horizon (windows : Vector (Option Window) 8) : Option Interval :=
  (List.finRange 8).foldl
    (fun best w =>
      match windows[w], best with
      | some v, none => some v.finish
      | some v, some b => some (if b < v.finish then v.finish else b)
      | none, b => b) none

/-- Whether a slot is a candidate for due `d`: its window ends by `d` and has remaining capacity (R112). -/
def isCandidate (windows : Vector (Option Window) 8) (lists : Vector (List QueueEntry) 8) (d : Interval)
    (w : WindowSlot) : Bool :=
  match windows[w] with
  | some v => v.finish ≤ d && lists[w].length < v.capacity.toNat
  | none => false

/-- The end of a slot's window, 0 when EMPTY; only read for candidates. -/
def finishOf (windows : Vector (Option Window) 8) (w : WindowSlot) : Interval :=
  match windows[w] with
  | some v => v.finish
  | none => 0

/-- The candidate with the greatest end, the lower slot among equal ends (R112). -/
def bestCandidate (windows : Vector (Option Window) 8) (lists : Vector (List QueueEntry) 8) (d : Interval) :
    Option WindowSlot :=
  ((List.finRange 8).filter (isCandidate windows lists d)).foldl
    (fun best w =>
      match best with
      | none => some w
      | some b => if finishOf windows b < finishOf windows w then some w else some b) none

/-- The placement of one entry of the queue snapshot (R111, R112, R113). -/
def placeEntry (windows : Vector (Option Window) 8) (limit : Option Interval) (p : Placement) (e : QueueEntry) :
    Placement :=
  if (match limit with | none => true | some h => decide (h < e.due)) then { p with beyond := p.beyond + 1 }
  else
    match bestCandidate windows p.lists e.due with
    | some w => { p with lists := p.lists.set w (p.lists[w] ++ [e]) }
    | none =>
      if p.unplaced.length < Config.maxUnplaced then { p with unplaced := p.unplaced ++ [e] }
      else { p with overflow := p.overflow + 1 }

/-- The walk over the queue snapshot from its head (R112). -/
def placeAll (windows : Vector (Option Window) 8) (queue : List QueueEntry) : Placement :=
  queue.foldl (placeEntry windows (horizon windows)) Placement.empty

/-- The placed total: the lengths of the eight window lists added (R104). -/
def placedTotal (lists : Vector (List QueueEntry) 8) : Nat := ((List.finRange 8).map fun w => lists[w].length).sum

/-- The plan that a build installs (R114): STALE if the watch mark is set. -/
def BuildRun.plan (run : BuildRun) : Plan :=
  let p := placeAll run.windows run.queue
  { state := if run.watch then .stale else .fresh, stamp := some run.stamp, windowLists := p.lists,
    unplaced := p.unplaced, overflow := p.overflow, beyond := p.beyond }

/-- The unplaced total of a plan (R104). -/
def Plan.unplacedTotal (p : Plan) : Nat := p.unplaced.length + p.overflow

/-- A plan without the entry of a vacated element (R118). -/
def Plan.without (p : Plan) (ix : ElementIx) : Plan :=
  { p with windowLists := p.windowLists.map (withoutIndex ix), unplaced := withoutIndex ix p.unplaced }

end Sys2Proof.Machine
end

