-- ==== Sys2Proof/Machine/Reckon.lean ====
section
/-! DEFINITION. The wear arithmetic of one element step (chapter 3, stages 1 to 6), on exact whole numbers. -/

namespace Sys2Proof.Machine

/-- A whole number stored in 32 bits, as the maximum when it is greater (spec/00_scope.md section 4.1). -/
def satWord (n : Nat) : Word := BitVec.ofNat 32 (min n Config.maxWord)

/-- A whole number stored in a tally cell, as 65,535 when it is greater (R21). -/
def satHalf (n : Nat) : Half := BitVec.ofNat 16 (min n Config.maxHalf)

/-- Stage 1: each passage cell times the weight of its class, added (R45). -/
def rawFigure (cells : Vector Half 8) (weights : Vector Byte 8) : Nat :=
  ((List.finRange 8).map fun c => cells[c].toNat * weights[c].toNat).sum

/-- Stage 2: the numerator, in sixteenths of a wear unit (R46). -/
def numerator (raw : Nat) (runTime : Half) (r : Element) : Nat :=
  raw * r.duty.toNat + runTime.toNat * r.beltRate.toNat + r.residue.val

/-- Stage 3: the increment is the numerator divided by 16, rounded down (R47). -/
def increment (num : Nat) : Nat := num / 16

/-- Stage 3: the new residue is the remainder (R47). -/
def newResidue (num : Nat) : Fin 16 := ⟨num % 16, Nat.mod_lt _ (by decide)⟩

/-- Stage 5: R moves toward the increment times 256 by the difference divided by 2 to the shift, rounded toward
minus infinity (R50; `/` on Int with a positive divisor is the floor). -/
def smooth (rate : Word) (inc : Nat) (shift : Fin 8) : Word :=
  let target : Int := min (inc * 256) Config.maxWord
  BitVec.ofNat 32 ((rate.toNat : Int) + (target - rate.toNat) / 2 ^ shift.val).toNat

/-- The quotient of the projection's fourth case: (L - wear) x 256 / R rounded up, capped (R52). -/
def quotient (wear rate limit : Word) : Nat :=
  min (((limit.toNat - wear.toNat) * 256 + rate.toNat - 1) / rate.toNat) Config.maxProjection

/-- The projection of due from wear, R, L and a base interval (R52, Table 3-5). -/
def project (wear rate limit : Word) (base : Interval) : Option Interval :=
  if limit = 0 then none
  else if rate = 0 then none
  else if limit ≤ wear then some base
  else some (satWord (base.toNat + quotient wear rate limit))

/-- Stages 1 to 6 on one record: `credited` says whether stage 4 credits wear (R48). -/
def reckon (r : Element) (zone : ZoneTally) (runTime : Half) (weights : Vector Byte 8) (shift : Fin 8)
    (interval : Interval) : Element :=
  let num := numerator (rawFigure zone.cells weights) runTime r
  let credited : Bool := r.start ≤ interval
  let wear := if credited then satWord (r.wear.toNat + increment num) else r.wear
  let residue := if credited then newResidue num else r.residue
  let rate := smooth r.rate (increment num) shift
  { r with wear := wear, residue := residue, rate := rate, due := project wear rate r.limit interval }

end Sys2Proof.Machine
end

