-- ==== Sys2Proof/Machine/Ops.lean ====
section
/-! DEFINITION. The operations that the commands share: roles and replies (chapter 9), raising causes (chapter 10), notices
and staleness (chapters 5 and 6), appends (chapter 7), triggers (chapter 2), the engine and its arbiter (chapter 8), start-up
(chapter 11). -/

namespace Sys2Proof.Machine

/-- What a command answers. -/
abbrev Result := Host.Outcome State Fault Refusal

/-! ## Roles and bindings (R167) -/

/-- Bit of a role in a role set (R179). -/
def Role.bit : Role → Nat
  | .report => 0
  | .ack => 1
  | .service => 2
  | .plan => 3
  | .admin => 4

/-- The port's role set holds the role. -/
def Settings.holds (st : Settings) (p : Port) (r : Role) : Bool := st.roles[p].getLsbD r.bit

/-- The port's binding holds the machine. -/
def Settings.binds (st : Settings) (p : Port) (m : MachineId) : Bool := st.bindings[p].getLsbD m.val

/-! ## Replies (R162 to R164) -/

/-- The port's receiver returns to HUNT, any reply it held is replaced, and it prepares this one (R160, R164). -/
def State.answer (s : State) (p : Port) (kind : Byte) (a : Answer) : State :=
  { s with links := s.links.set p { s.links[p] with
      rx := .hunt, tx := .preparing { kind := kind, payload := a.status.code :: a.body } } }

/-- The KIND of the reply to a known kind (R163). -/
def replyKind (k : RequestKind) : Byte := k.code + 0x80

/-- The KIND of FRAME_ERROR and UNKNOWN replies (R163). -/
def oddReplyKind : Byte := 0xFF

/-- The second and third gate of R162 for a complete frame of a known kind: STARTING during start-up, else the
owning block takes or refuses the request, and the port prepares its reply. -/
def takeRequest (p : Port) (k : RequestKind) (block : State → State × Answer) (s : State) : Result :=
  match s.phase with
  | .starting => .next (s.answer p (replyKind k) (refuse .starting))
  | .ready => .next ((block s).1.answer p (replyKind k) (block s).2)

/-- A read request: it changes nothing but its port's reply. -/
def readOnly (ask : State → Answer) (s : State) : State × Answer := (s, ask s)

/-! ## Attention (chapter 10) -/

/-- A port's record with another pending set; the line follows (R171). -/
def PortAttention.withPending (a : PortAttention) (pending enable : CauseSet) : PortAttention :=
  { a with pending := pending, line := lineOf pending enable }

/-- A cause made pending at one port (R172). -/
def PortAttention.raise (a : PortAttention) (c : Cause) (enable : CauseSet) : PortAttention :=
  a.withPending (a.pending ||| c.mask) enable

/-- Hits of one cause handed to one port: the cause becomes pending and the summary gains them (R172, R173). -/
def PortAttention.hit (a : PortAttention) (c : HitCause) (count : Nat) (lowest : Option ElementIx)
    (enable : CauseSet) : PortAttention :=
  { a with summaries := a.summaries.set c.ix (a.summaries[c.ix].add count lowest) }.raise c.cause enable

/-- A raise at every port that `at_` names; none is taken during start-up (R172, R177). -/
def raiseAt (at_ : Port → Bool) (c : Cause) (s : State) : State :=
  match s.phase with
  | .starting => s
  | .ready =>
    { s with attention := Vector.ofFn fun p : Port =>
        if at_ p then s.attention[p].raise c s.settings.enables[p] else s.attention[p] }

/-- A hit handed to every port that `at_` names (R79). -/
def hitAt (at_ : Port → Bool) (c : HitCause) (count : Nat) (lowest : Option ElementIx) (s : State) : State :=
  match s.phase with
  | .starting => s
  | .ready =>
    { s with attention := Vector.ofFn fun p : Port =>
        if at_ p then s.attention[p].hit c count lowest s.settings.enables[p] else s.attention[p] }

/-! ## Due queues and staleness (chapters 5 and 6) -/

/-- A PLACE notice carried out on the machine's queue (R87). -/
def State.place (s : State) (m : MachineId) (e : ElementIx) (due : Option Interval) : State :=
  { s with queues := s.queues.set m (s.queues[m].place e due) }

/-- A REMOVE notice carried out on the machine's queue (R87). -/
def State.remove (s : State) (m : MachineId) (e : ElementIx) : State :=
  { s with queues := s.queues.set m (s.queues[m].remove e) }

/-- The ports that PLAN_STALE of a machine is for: role PLAN and bound to it (R107). -/
def planPorts (st : Settings) (m : MachineId) (p : Port) : Bool := st.holds p .plan && st.binds p m

/-- The watch mark of a running build of the machine is set (R106, R110). -/
def Engine.watch (en : Engine) (m : MachineId) : Engine :=
  match en with
  | .build p run => if run.machine = m then .build p { run with watch := true } else .build p run
  | other => other

/-- A staleness event for a machine (R106): the watch mark, and a FRESH plan goes STALE with PLAN_STALE (R107). -/
def staleEvent (m : MachineId) (s : State) : State :=
  let watched := { s with engine := s.engine.watch m }
  match s.plans[m].state with
  | .fresh =>
    raiseAt (planPorts s.settings m) .planStale
      { watched with plans := s.plans.set m { s.plans[m] with state := .stale } }
  | _ => watched

/-! ## Records and history (chapters 1 and 7) -/

/-- One record written. -/
def State.write (s : State) (e : ElementIx) (r : Element) : State := { s with elements := s.elements.set e r }

/-- An append to an element's chain as its record stands (R134 to R137): true when the pool kept the record. A
dropped record raises HISTORY_LOST at the ports bound to the element's machine. -/
def State.appendHistory (s : State) (e : ElementIx) (h : HistoryRecord) : State × Bool :=
  match append s.pool s.elements[e].head h with
  | some (pool, head) => ({ s.write e { s.elements[e] with head := head } with pool := pool }, true)
  | none => (raiseAt (fun p => s.settings.binds p s.elements[e].machine) .historyLost s, false)

/-- A record written with its due projected afresh with base F; an ACTIVE element is placed; a staleness event for
its machine (R14, R16, R53, R91, R125, R127). -/
def State.reproject (s : State) (e : ElementIx) (r : Element) : State :=
  let due := project r.wear r.rate r.limit s.lastFolded
  let written := s.write e { r with due := due }
  let placed := if r.state = .active then written.place r.machine e due else written
  staleEvent r.machine placed

/-! ## The engine and its arbiter (chapter 8) -/

/-- Place of a requester in the waiting set and among the tier bits: FOLD, then SLOT0 to SLOT3 (Table 11-2). -/
def Requester.ix : Requester → Fin 5
  | .fold => 0
  | .slot p => p.succ

/-- The requesters in the order of the low rotation (R156). -/
def lowOrder : List Requester := [.slot 0, .slot 1, .slot 2, .slot 3, .fold]

/-- The places of the high rotation in order (R156). -/
def highOrder : List HighPlace :=
  [.requester .fold, .requester (.slot 0), .requester (.slot 1), .requester (.slot 2), .requester (.slot 3), .low]

/-- A cyclic order read from the place after `last` round to `last` itself (R156). -/
def after {α : Type} [DecidableEq α] (last : α) (order : List α) : List α :=
  (order.dropWhile fun x => x ≠ last).drop 1 ++ (order.takeWhile fun x => x ≠ last) ++ [last]

/-- A requester of the low tier that waits. -/
def Arbiter.lowWaiting (a : Arbiter) (tiers : Vector Tier 5) (r : Requester) : Bool :=
  tiers[r.ix] = .low && a.waiting[r.ix]

/-- Whether a place of the high rotation is eligible (R156, 1). -/
def Arbiter.eligible (a : Arbiter) (tiers : Vector Tier 5) : HighPlace → Bool
  | .requester r => tiers[r.ix] = .high && a.waiting[r.ix]
  | .low => lowOrder.any (a.lowWaiting tiers)

/-- The choice of R156: the requester granted and the pointers after the grant. -/
def Arbiter.choose (a : Arbiter) (tiers : Vector Tier 5) : Option (Requester × HighPlace × Requester) :=
  match (after a.high highOrder).find? (a.eligible tiers) with
  | some (.requester r) => some (r, .requester r, a.low)
  | some .low =>
    match (after a.low lowOrder).find? (a.lowWaiting tiers) with
    | some r => some (r, .low, r)
    | none => none
  | none => none

/-- A requester joins the waiting set (R155). -/
def Arbiter.wait (a : Arbiter) (r : Requester) : Arbiter := { a with waiting := a.waiting.set r.ix true }

/-- A requester leaves the waiting set, the pointers unchanged (R155, R157). -/
def Arbiter.leave (a : Arbiter) (r : Requester) : Arbiter := { a with waiting := a.waiting.set r.ix false }

/-- The fold of an interval at its beginning: its snapshot of the settings, the first element step next (R41,
R42), an empty tally (R80). -/
def FoldRun.begin (interval : Interval) (st : Settings) : FoldRun where
  interval := interval
  snapshot := { weights := st.weights, modes := st.modes, shifts := st.shifts }
  stage := .step 0
  credited := 0
  rateOnly := 0
  skipped := 0
  newHits := 0
  moved := Vector.replicate 4 false
  expired := Vector.replicate 4 false
  tally := DeferredTally.empty

/-- The operation of a granted requester begins: a granted FOLD enters FOLDING (R31), a granted slot RUNNING (R148);
a plan build takes its snapshot in one read (R109). -/
def State.begin (s : State) : Requester → State
  | .fold =>
    match s.foldState with
    | .foldWait i => { s with foldState := .folding i, engine := .fold (FoldRun.begin i s.settings) }
    | _ => s
  | .slot p =>
    match s.slots[p] with
    | .waiting copy =>
      { s with
        slots := s.slots.set p (.running copy)
        engine :=
          match copy.request with
          | .planBuild m =>
            .build p { machine := m, windows := s.windows[m], queue := s.queues[m].entries,
                       stamp := s.lastFolded, watch := false }
          | _ => .lookup p }
    | _ => s

/-- The arbiter grants an idle engine to one waiting requester, if any waits; nothing is granted during start-up
(R143, R156, R157). -/
def State.grant (s : State) : State :=
  match s.phase, s.engine with
  | .ready, .idle =>
    match s.arbiter.choose s.settings.tiers with
    | some (r, high, low) =>
      { s with arbiter := { high := high, low := low, waiting := s.arbiter.waiting.set r.ix false } }.begin r
    | none => s
  | _, _ => s

/-- The engine is released and granted anew (R143, R156). -/
def State.release (s : State) : State := { s with engine := .idle }.grant

/-- A requester starts to wait; an idle engine is granted at once (R157). -/
def State.startWaiting (s : State) (r : Requester) : State := { s with arbiter := s.arbiter.wait r }.grant

/-! ## Tally banks and triggers (chapter 2) -/

/-- The next interval number, not beyond the top of the range (R33). -/
def nextInterval (i : Interval) : Interval := if i.toNat = Config.maxWord then i else i + 1

def BankId.other : BankId → BankId
  | .a => .b
  | .b => .a

/-- A bank by its name. -/
def State.bank (s : State) : BankId → Bank
  | .a => s.bankA
  | .b => s.bankB

/-- A bank replaced. -/
def State.setBank (s : State) (id : BankId) (bank : Bank) : State :=
  match id with
  | .a => { s with bankA := bank }
  | .b => { s with bankB := bank }

/-- The closed bank (section 2.1). -/
def State.closedBank (s : State) : Bank := s.bank s.activeBank.other

/-- The Interval Timer restarted with the interval length as set (R34). -/
def restartedTimer (st : Settings) : IntervalTimer := .running (st.intervalLength.toNat * Config.ticksPerMinute)

/-- The swap of R29 (R33 at the top of the range). -/
def State.swap (s : State) : State :=
  { s with
    activeBank := s.activeBank.other
    foldState := .foldWait s.openInterval
    openInterval := nextInterval s.openInterval
    timer := restartedTimer s.settings }.startWaiting .fold

/-- What a trigger did (R37). -/
inductive TriggerEffect where
  | closed
  | marked
  | absorbed
deriving DecidableEq, Repr

def TriggerEffect.code : TriggerEffect → Byte
  | .closed => 0
  | .marked => 1
  | .absorbed => 2

/-- What a trigger would do as the state stands (Table 2-4). -/
def State.triggerEffect (s : State) : TriggerEffect :=
  match s.foldState with
  | .idle => .closed
  | _ => if s.pendingTrigger then .absorbed else .marked

/-- A trigger (R29, R30). -/
def State.trigger (s : State) : State :=
  match s.triggerEffect with
  | .closed => s.swap
  | .marked => { s with pendingTrigger := true }
  | .absorbed => s

/-- An expiry of the RUNNING Interval Timer: a trigger, and EXPIRED if it did not swap (R35). -/
def State.expireInterval (s : State) : State :=
  match s.triggerEffect with
  | .closed => s.trigger
  | _ => { s.trigger with timer := .expired }

/-! ## Deferred slots (chapter 8) -/

/-- A repeat has the same kind and payload bytes as the copy (R145). -/
def RequestCopy.same (c : RequestCopy) (req : LongRequest) (payload : List Byte) : Bool :=
  c.request.kind = req.kind && c.payload = payload

/-- The BUSY reply: the kind of the long request held and the slot state (R147). -/
def busyAnswer (c : RequestCopy) (slot : Slot) : Answer :=
  { status := .busy, body := [c.request.kind.code, slot.code] }

/-- A long request that passed its checks reaches its port's slot (R146, R147, R150). -/
def takeLong (p : Port) (req : LongRequest) (payload : List Byte) (s : State) : State × Answer :=
  match s.slots[p] with
  | .empty =>
    let taken :=
      { s with slots := s.slots.set p (.waiting { request := req, payload := payload }) }.startWaiting (.slot p)
    (taken, { status := .pending, body := [taken.slots[p].code] })
  | .ready c result _ =>
    if c.same req payload then ({ s with slots := s.slots.set p .empty }, { status := .ok, body := result.bytes })
    else (s, busyAnswer c s.slots[p])
  | .waiting c | .running c =>
    if c.same req payload then (s, { status := .pending, body := [s.slots[p].code] })
    else (s, busyAnswer c s.slots[p])

/-- The discard time of a port in half seconds (R151). -/
def DiscardTime.ticks : DiscardTime → Nat
  | .short => Config.shortDiscard
  | .long => Config.longDiscard

/-- A slot's operation completes: the result is stored, the discard timer starts, RESULT is raised at its own port,
and the engine is released (R149). -/
def State.complete (s : State) (p : Port) (copy : RequestCopy) (result : LongResult) : State :=
  (raiseAt (fun q => q = p) .result
    { s with slots := s.slots.set p (.ready copy result s.settings.discardTimes[p].ticks) }).release

/-- The discard timer of a READY slot expires: the result is dropped and DISCARD raised at its own port (R151). -/
def State.discardResult (s : State) (p : Port) : State :=
  raiseAt (fun q => q = p) .discard { s with slots := s.slots.set p .empty }

/-- PORT_RESET's effect on the port's slot and the engine (R152). -/
def State.resetSlot (s : State) (p : Port) : State :=
  let emptied :=
    { s with slots := s.slots.set p .empty, arbiter := s.arbiter.leave (.slot p) }
  match s.engine with
  | .build q _ => if q = p then emptied.release else emptied
  | .lookup q => if q = p then emptied.release else emptied
  | _ => emptied

/-! ## Start-up (chapter 11) -/

/-- The volatile state at its reset values (R183: R40, R104, R155, R158, R177). -/
def State.resetVolatile (s : State) : State :=
  { s with
    bankA := Bank.zero
    bankB := Bank.zero
    activeBank := .a
    foldState := .idle
    pendingTrigger := false
    openInterval := nextInterval s.lastFolded
    plans := Vector.replicate 4 Plan.none
    slots := Vector.replicate 4 .empty
    engine := .idle
    arbiter := Arbiter.reset
    attention := Vector.replicate 4 PortAttention.clear }

/-- Start-up begins (R181): the origin is written, volatile work is abandoned (R40, R65, R97, R116, R158, R177), every
port's link takes Table 9-5 (R169) and the Interval Timer stops (R34). DESIGN CHOICE, safe: log 8. -/
def State.beginStartUp (s : State) (origin : RestartOrigin) : State :=
  { s.resetVolatile with
    origin := origin
    queues := Vector.replicate 4 DueQueue.empty
    timer := .stopped
    links := s.links.map fun l => { l with rx := .hunt, tx := .fill }
    phase := .starting }

/-- Chain repair of the whole store (R182). -/
def State.repair (s : State) : State :=
  let walk := repairWalk s.elements s.pool.alloc
  { s with elements := walk.dropHeads s.elements, pool := { s.pool with alloc := walk.freeUnvisited } }

/-- The queues rebuilt from the element records (R97). -/
def State.rebuild (s : State) : State := { s with queues := Vector.ofFn fun m => rebuildQueue s.elements m }

/-- The entry into READY in one step: the supply-low input is sampled, the timer restarted, STARTED raised at all
four ports, and SUPPLY if the sampled input is asserted (R183). -/
def State.becomeReady (s : State) : State :=
  let ready :=
    { s with supply := s.supplyPin, timer := restartedTimer s.settings, phase := .ready }
  let started := raiseAt (fun _ => true) .started ready
  match s.supplyPin with
  | .asserted => raiseAt (fun _ => true) .supply started
  | .deasserted => started

end Sys2Proof.Machine
end

