-- ==== Sys2Proof/Machine/Clock.lean ====
section
/-! DEFINITION. The passing of time: the Interval Timer (R34) and the discard timers (R151), in half seconds (log 3). -/

namespace Sys2Proof.Machine

/-- The RUNNING Interval Timer counts down half a second; at zero it expires (R34, R35). -/
def State.tickInterval (s : State) : State :=
  match s.timer with
  | .running halfSeconds =>
    if 1 < halfSeconds then { s with timer := .running (halfSeconds - 1) } else s.expireInterval
  | _ => s

/-- The discard timer of a READY slot counts down half a second; at zero it expires (R151). -/
def State.tickSlot (s : State) (p : Port) : State :=
  match s.slots[p] with
  | .ready copy result discardIn =>
    if 1 < discardIn then { s with slots := s.slots.set p (.ready copy result (discardIn - 1)) }
    else s.discardResult p
  | _ => s

/-- Half a second of the part's clock: the Interval Timer, then the discard timers of SP0 to SP3; during start-up the
timers do not run (R34, R144). DESIGN CHOICE, safe: log 13, the order of timers that expire together. -/
def State.tick (s : State) : State :=
  match s.phase with
  | .starting => s
  | .ready => (List.finRange 4).foldl State.tickSlot s.tickInterval

end Sys2Proof.Machine
end

