-- ==== Sys2Proof/Machine/ElementTable.lean ====
section
/-! DEFINITION. The requests of the Element Table (chapter 1): ELEMENT_DEFINE, ELEMENT_VACATE, ELEMENT_SUSPEND,
ELEMENT_RESUME, LIMITS_SET, HITS_ACK, ELEMENT_READ. -/

namespace Sys2Proof.Machine

/-- A refusal that reports the record's current generation, so that the master can re-read the record (R7, R19). -/
def refuseAt (st : Status) (r : Element) : Answer := { status := st, body := [r.generation] }

/-- The checks of a modifying request on an existing element (Table 1-5 and Table 7-2): role, arguments, not
VACANT, binding, generation. `args` is none when an argument is out of range. VACANT and STALE, the refusals of
Table 1-7, report the generation (R19). That the other refusals carry the status alone is DEDUCED, unsafe: log 22. -/
def modifyElement {α : Type} (p : Port) (role : Role) (args : Option (ElementIx × Generation × α))
    (act : ElementIx → Element → α → State → State × Answer) (s : State) : State × Answer :=
  if s.settings.holds p role = false then (s, refuse .denied)
  else
    match args with
    | none => (s, refuse .badArg)
    | some (e, g, a) =>
      if s.elements[e].state = .vacant then (s, refuseAt .vacant s.elements[e])
      else if s.settings.binds p s.elements[e].machine = false then (s, refuse .denied)
      else if g ≠ s.elements[e].generation then (s, refuseAt .stale s.elements[e])
      else act e s.elements[e] a s

/-- OK, or CLAMPED when a value was clamped (R6). -/
def okOrClamped (clamped : Bool) : Status := if clamped then .clamped else .ok

/-- Duty brought into 1 to 64 (Table 1-6). -/
def clampDuty (d : Byte) : Byte := if d = 0 then 1 else if 64 < d.toNat then 64 else d

/-- The belt rate of a ROLLER is 0 (Table 1-6). -/
def clampBeltRate (k : ElementKind) (b : Byte) : Byte :=
  match k with
  | .roller => 0
  | .belt => b

/-- P greater than a non-zero L is stored as L (Table 1-6). -/
def clampPlan (planAt limit : Word) : Word := if limit ≠ 0 ∧ limit < planAt then limit else planAt

/-- The record that a taken ELEMENT_DEFINE writes, before its history append (R9). -/
def definedRecord (a : DefineArgs) (old : Element) (opened : Interval) : Element where
  state := .active
  kind := a.kind
  machine := a.machine
  zone := a.zone
  duty := clampDuty a.duty
  beltRate := clampBeltRate a.kind a.beltRate
  wear := 0
  residue := 0
  rate := 0
  planAt := clampPlan a.planAt a.limit
  limit := a.limit
  rateLow := a.rateLow
  rateHigh := a.rateHigh
  flags := 0
  limitLogged := false
  due := none
  start := opened
  generation := old.generation + 1
  head := none

/-- Whether a define clamps a value (R8). -/
def defineClamps (a : DefineArgs) : Bool :=
  clampDuty a.duty != a.duty || clampBeltRate a.kind a.beltRate != a.beltRate ||
    clampPlan a.planAt a.limit != a.planAt

/-- A taken ELEMENT_DEFINE (R9, R10). -/
def define (a : DefineArgs) (s : State) : State × Answer :=
  let r := definedRecord a s.elements[a.index] s.openInterval
  ((s.write a.index r).appendHistory a.index
      { interval := s.openInterval, generation := r.generation, wear := 0, body := .defined 0 } |>.1,
    { status := okOrClamped (defineClamps a)
      body := halfBytes a.index.val ++ [r.generation, r.duty, r.beltRate] ++ bytes32 r.planAt })

/-- ELEMENT_DEFINE's checks in the order of Table 1-5. -/
def defineChecks (p : Port) (payload : List Byte) (s : State) : State × Answer :=
  if s.settings.holds p .service = false then (s, refuse .denied)
  else
    match defineArgs payload with
    | none => (s, refuse .badArg)
    | some a =>
      if s.settings.binds p a.machine = false then (s, refuse .denied)
      else if s.elements[a.index].state ≠ .vacant then (s, refuse .occupied)
      else define a s

/-- ELEMENT_DEFINE (R6, R8 to R10). -/
def execElementDefine (p : Port) (payload : List Byte) (s : State) : Result :=
  takeRequest p .elementDefine (defineChecks p payload) s

/-- The arguments of a request that carries only index and generation. -/
def plainArgs (payload : List Byte) : Option (ElementIx × Generation × Unit) :=
  match tenancyArgs payload with
  | some (e, g) => some (e, g, ())
  | none => none

/-- A record whose tenancy has ended (R11); generation and the fields not named keep their values. -/
def Element.vacated (r : Element) : Element :=
  { r with state := .vacant, flags := 0, limitLogged := false, due := none, head := none }

/-- A taken ELEMENT_VACATE (R11, R118, R139). -/
def vacate (e : ElementIx) (r : Element) (_ : Unit) (s : State) : State × Answer :=
  let removed := s.remove r.machine e
  let unplanned := { removed with plans := removed.plans.set r.machine (removed.plans[r.machine].without e) }
  let freed :=
    { unplanned with pool :=
        { unplanned.pool with alloc := freeBlocks unplanned.pool.alloc (chainOf unplanned.pool.alloc r.head) } }
  (staleEvent r.machine (freed.write e r.vacated),
    { status := .ok, body := halfBytes e.val ++ [r.generation] })

/-- ELEMENT_VACATE (R6, R7, R11). -/
def execElementVacate (p : Port) (payload : List Byte) (s : State) : Result :=
  takeRequest p .elementVacate (modifyElement p .service (plainArgs payload) vacate) s

/-- The reply of ELEMENT_SUSPEND and ELEMENT_RESUME: the state and due after the request (R13, R14). -/
def tenancyAnswer (e : ElementIx) (s : State) : Answer :=
  { status := .ok, body := s.elements[e].state.code :: dueBytes s.elements[e].due }

/-- A taken ELEMENT_SUSPEND (R13): no change on a SUSPENDED record. -/
def suspend (e : ElementIx) (r : Element) (_ : Unit) (s : State) : State × Answer :=
  match r.state with
  | .active =>
    let done := staleEvent r.machine ((s.write e { r with state := .suspended }).remove r.machine e)
    (done, tenancyAnswer e done)
  | _ => (s, tenancyAnswer e s)

/-- ELEMENT_SUSPEND (R6, R7, R13). -/
def execElementSuspend (p : Port) (payload : List Byte) (s : State) : Result :=
  takeRequest p .elementSuspend (modifyElement p .service (plainArgs payload) suspend) s

/-- A taken ELEMENT_RESUME (R14): no change on an ACTIVE record. -/
def resume (e : ElementIx) (r : Element) (_ : Unit) (s : State) : State × Answer :=
  match r.state with
  | .suspended =>
    let done := s.reproject e { r with state := .active }
    (done, tenancyAnswer e done)
  | _ => (s, tenancyAnswer e s)

/-- ELEMENT_RESUME (R6, R7, R14). -/
def execElementResume (p : Port) (payload : List Byte) (s : State) : Result :=
  takeRequest p .elementResume (modifyElement p .service (plainArgs payload) resume) s

/-- A taken LIMITS_SET (R15, R16). -/
def setLimits (e : ElementIx) (r : Element) (v : LimitValues) (s : State) : State × Answer :=
  let planAt := clampPlan v.planAt v.limit
  let done :=
    s.reproject e { r with planAt := planAt, limit := v.limit, rateLow := v.rateLow, rateHigh := v.rateHigh }
  (done,
    { status := okOrClamped (planAt != v.planAt)
      body := bytes32 planAt ++ bytes32 v.limit ++ bytes16 v.rateLow ++ bytes16 v.rateHigh ++
        dueBytes done.elements[e].due })

/-- LIMITS_SET (R6, R7, R15, R16). -/
def execLimitsSet (p : Port) (payload : List Byte) (s : State) : Result :=
  takeRequest p .limitsSet (modifyElement p .plan (limitsArgs payload) setLimits) s

/-- A taken HITS_ACK (R17): every named flag is cleared. -/
def ackHits (e : ElementIx) (r : Element) (named : FlagSet) (s : State) : State × Answer :=
  let left := r.flags &&& ~~~named
  (s.write e { r with flags := left }, { status := .ok, body := [left.setWidth 8] })

/-- HITS_ACK (R6, R7, R17). -/
def execHitsAck (p : Port) (payload : List Byte) (s : State) : Result :=
  takeRequest p .hitsAck (modifyElement p .ack (ackArgs payload) ackHits) s

/-- The ELEMENT_READ reply (R18). -/
def elementAnswer (payload : List Byte) (s : State) : Answer :=
  match elementReadArgs payload with
  | some e => { status := .ok, body := elementBytes e s.elements[e] }
  | none => refuse .badArg

/-- ELEMENT_READ (R18). -/
def execElementRead (p : Port) (payload : List Byte) (s : State) : Result :=
  takeRequest p .elementRead (readOnly (elementAnswer payload)) s

end Sys2Proof.Machine
end

