-- ==== Sys2Proof/Machine/Fold.lean ====
section
/-! DEFINITION. MODE_SET and the fold (chapters 3 and 4): ELEMENT_STEP and the five stages of completion, FOLD_COMPLETION,
MARK_PLANS_STALE, HAND_DEFERRED_HITS, CLEAR_CLOSED_BANK, RELEASE_ENGINE. -/

namespace Sys2Proof.Machine

/-! ## MODE_SET -/

/-- MODE_SET's checks and effect (R56). -/
def modeSet (p : Port) (payload : List Byte) (s : State) : State × Answer :=
  if s.settings.holds p .admin = false then (s, refuse .denied)
  else
    match modeArgs payload with
    | none => (s, refuse .badArg)
    | some (m, mode) =>
      if s.settings.binds p m = false then (s, refuse .denied)
      else
        ({ s with settings := { s.settings with modes := s.settings.modes.set m mode } },
          { status := .ok, body := [byteOf m.val, mode.code, s.foldState.code] })

/-- MODE_SET (R56). -/
def execModeSet (p : Port) (payload : List Byte) (s : State) : Result :=
  takeRequest p .modeSet (modeSet p payload) s

/-! ## Element steps -/

/-- The stage after the step for index `n` (R41). -/
def FoldStage.afterStep (n : ElementIx) : FoldStage :=
  if h : n.val + 1 < 512 then .step ⟨n.val + 1, h⟩ else .store

/-- A new hit added to the deferred tally (R80). -/
def DeferredTally.add (t : DeferredTally) (m : MachineId) (e : ElementIx) (c : HitCause) : DeferredTally where
  entries := t.entries.set m (t.entries[m].set c.ix
    { count := t.entries[m][c.ix].count + 1, lowest := lowerIndex t.entries[m][c.ix].lowest (some e) })
  machines := t.machines.set m true

/-- The ports that hear of a hit at the step: bound to the machine, policy IMMEDIATE (R78, R79). -/
def immediatePorts (st : Settings) (m : MachineId) (p : Port) : Bool := st.binds p m && st.policies[p] = .immediate

/-- Stage 10: each new hit handed to the Attention Unit, in check order (R78, R79). -/
def handHits (e : ElementIx) (m : MachineId) (hits : List HitFlag) (s : State) : State :=
  hits.foldl (fun s f => hitAt (immediatePorts s.settings m) f.cause 1 (some e) s) s

/-- Stages 8 and 9 on the record as stage 7 left it: the flags of the new hits set, limit logged set on a LIMIT new
hit (R72, R75). -/
def checkedRecord (r : Element) (hits : List HitFlag) : Element :=
  { r with flags := setFlags r.flags hits, limitLogged := r.limitLogged || hits.contains .limit }

/-- Stage 9 appends a LIMIT_REACHED record on a LIMIT new hit with limit logged no (R75, R76). -/
def logLimit (e : ElementIx) (r : Element) (hits : List HitFlag) (interval : Interval) (s : State) : State :=
  if hits.contains .limit && !r.limitLogged then
    (s.appendHistory e
      { interval := interval, generation := r.generation, wear := r.wear, body := .limitReached }).1
  else s

/-- The fold's own counts after a stepped record (R54, R59, R80). -/
def FoldRun.stepped (run : FoldRun) (e : ElementIx) (m : MachineId) (credited moved : Bool)
    (hits : List HitFlag) : FoldRun :=
  { run with
    stage := FoldStage.afterStep e
    credited := run.credited + credited.toNat
    rateOnly := run.rateOnly + (!credited).toNat
    newHits := run.newHits + hits.length
    moved := if moved then run.moved.set m true else run.moved
    tally := hits.foldl (fun t f => t.add m e f.cause) run.tally }

/-- The hits of stage 8 when it runs: only in a machine whose snapshot mode is CHECKED (R68). -/
def stageEight (mode : Mode) (r : Element) (zoneClip runClip : Bool) : List HitFlag :=
  match mode with
  | .checked => newHits r zoneClip runClip
  | _ => []

/-- Stages 1 to 10 on an ACTIVE record of a machine that is not in DISCARD (Table 3-3). -/
def stepActive (run : FoldRun) (e : ElementIx) (r : Element) (s : State) : State :=
  let bank := s.closedBank[r.machine]
  let zone := bank.zones[r.zone]
  let reckoned :=
    reckon r zone bank.runTime run.snapshot.weights run.snapshot.shifts[r.machine] run.interval
  let hits := stageEight run.snapshot.modes[r.machine] reckoned zone.clip bank.runClip
  let placed := (s.write e (checkedRecord reckoned hits)).place r.machine e reckoned.due
  let handed := handHits e r.machine hits (logLimit e reckoned hits run.interval placed)
  { handed with
    engine := .fold (run.stepped e r.machine (r.start ≤ run.interval) (reckoned.due != r.due) hits) }

/-- A step that skips its record (R44): VACANT is not counted, the others count as skipped. -/
def stepSkipped (run : FoldRun) (e : ElementIx) (counted : Bool) (s : State) : State :=
  { s with
    engine := .fold { run with stage := FoldStage.afterStep e, skipped := run.skipped + counted.toNat } }

/-- The element step for index `e` (Table 3-2). -/
def stepElement (run : FoldRun) (e : ElementIx) (s : State) : State :=
  match s.elements[e].state with
  | .vacant => stepSkipped run e false s
  | .suspended => stepSkipped run e true s
  | .active =>
    match run.snapshot.modes[s.elements[e].machine] with
    | .discard => stepSkipped run e true s
    | _ => stepActive run e s.elements[e] s

/-- ELEMENT_STEP: the next element step of the fold in progress (R43, R44). -/
def execElementStep (s : State) : Result :=
  match s.engine with
  | .fold run =>
    match run.stage with
    | .step e => .next (stepElement run e s)
    | _ => .fault .noElementStep
  | _ => .fault .noElementStep

/-! ## Completion -/

/-- A stage of completion, taken only in its turn (R58). -/
def completionStage (stage : FoldStage) (act : FoldRun → State → State) (s : State) : Result :=
  match s.engine with
  | .fold run => if run.stage = stage then .next (act run s) else .fault .stageOutOfTurn
  | _ => .fault .stageOutOfTurn

/-- A window slot after the fold of an interval: EMPTY when its end is at most the interval (R60, R103). -/
def expireWindow (interval : Interval) (w : Option Window) : Option Window :=
  match w with
  | some v => if v.finish ≤ interval then none else some v
  | none => none

/-- Whether a machine loses a window at the fold of an interval (R60). -/
def losesWindow (interval : Interval) (slots : Vector (Option Window) 8) : Bool :=
  (List.finRange 8).any fun w => slots[w] != expireWindow interval slots[w]

/-- The clip markers set in one machine's part of a bank. -/
def MachineTally.markers (t : MachineTally) : Nat :=
  ((List.finRange 16).map fun z => t.zones[z].clip.toNat).sum + t.runClip.toNat

/-- The clip markers set in a bank, zone and run markers together (Table 3-9). -/
def bankMarkers (b : Bank) : Nat := ((List.finRange 4).map fun m => b[m].markers).sum

/-- The reckoning summary of a fold (R59). -/
def FoldRun.summary (run : FoldRun) (closed : Bank) : Summary where
  interval := run.interval
  credited := run.credited
  rateOnly := run.rateOnly
  skipped := run.skipped
  newHits := run.newHits
  saturatedCells := bankMarkers closed
  discarded := run.snapshot.modes.map fun m => m = .discard

/-- Stage 1: F, the summary and the window drops as one update (R58, R59, R60). -/
def storeFold (run : FoldRun) (s : State) : State :=
  { s with
    lastFolded := run.interval
    summary := run.summary s.closedBank
    windows := s.windows.map fun slots => slots.map (expireWindow run.interval)
    engine := .fold { run with stage := .markStale, expired := s.windows.map (losesWindow run.interval) } }

/-- FOLD_COMPLETION (R58, R59, R60). -/
def execFoldCompletion (s : State) : Result := completionStage .store storeFold s

/-- Stage 2: a staleness event for each machine marked moved or expired; the marks are discarded (R61). -/
def markPlansStale (run : FoldRun) (s : State) : State :=
  let marked :=
    (List.finRange 4).foldl (fun s m => if run.moved[m] || run.expired[m] then staleEvent m s else s) s
  { marked with
    engine := .fold { run with
      stage := .handHits, moved := Vector.replicate 4 false, expired := Vector.replicate 4 false } }

/-- MARK_PLANS_STALE (R61). -/
def execMarkPlansStale (s : State) : Result := completionStage .markStale markPlansStale s

/-- The deferred tally handed to one port: for each machine of its binding, each cause with a non-zero count
(R80). -/
def PortAttention.takeTally (a : PortAttention) (tally : DeferredTally) (binding : BitVec 4) (enable : CauseSet) :
    PortAttention :=
  (List.finRange 4).foldl
    (fun a m =>
      hitCauses.foldl
        (fun a c =>
          if binding.getLsbD m.val && 0 < tally.entries[m][c.ix].count then
            a.hit c tally.entries[m][c.ix].count tally.entries[m][c.ix].lowest enable
          else a) a) a

/-- The set of machines with new hits shares a machine with a binding (R81). -/
def DeferredTally.meets (tally : DeferredTally) (binding : BitVec 4) : Bool :=
  (List.finRange 4).any fun m => tally.machines[m] && binding.getLsbD m.val

/-- Stage 3 at one port, by its notify policy (R79 to R82, Table 4-2). -/
def PortAttention.foldDone (a : PortAttention) (tally : DeferredTally) (policy : NotifyPolicy) (binding : BitVec 4)
    (enable : CauseSet) : PortAttention :=
  match policy with
  | .immediate => a.raise .reckoned enable
  | .deferred => (a.takeTally tally binding enable).raise .reckoned enable
  | .summary => if tally.meets binding then a.raise .reckoned enable else a
  | .none => a

/-- Stage 3: the deferred tally, then RECKONED, handed to every port; the tally is discarded (R62, R80). -/
def handDeferred (run : FoldRun) (s : State) : State :=
  { s with
    attention := Vector.ofFn fun p : Port =>
      s.attention[p].foldDone run.tally s.settings.policies[p] s.settings.bindings[p] s.settings.enables[p]
    engine := .fold { run with stage := .clearBank, tally := DeferredTally.empty } }

/-- HAND_DEFERRED_HITS (R62). -/
def execHandDeferredHits (s : State) : Result := completionStage .handHits handDeferred s

/-- Stage 4: the closed bank cleared, the fold state IDLE; a pending trigger is consumed by a swap at once (R32). -/
def clearClosed (run : FoldRun) (s : State) : State :=
  let cleared :=
    { s.setBank s.activeBank.other Bank.zero with
      foldState := .idle, pendingTrigger := false, engine := .fold { run with stage := .release } }
  if s.pendingTrigger then cleared.swap else cleared

/-- CLEAR_CLOSED_BANK (R32). -/
def execClearClosedBank (s : State) : Result := completionStage .clearBank clearClosed s

/-- RELEASE_ENGINE: stage 5 (R63). -/
def execReleaseEngine (s : State) : Result := completionStage .release (fun _ s => s.release) s

end Sys2Proof.Machine
end

