-- ==== Sys2Proof/Machine/Ports.lean ====
section
/-! DEFINITION. The station ports' own rows (chapter 9): FRAME_ERROR, UNKNOWN, SEL_HIGH, REPLY_READY, PORT_RESET. -/

namespace Sys2Proof.Machine

/-- A port's link replaced. -/
def State.setLink (s : State) (p : Port) (l : Link) : State := { s with links := s.links.set p l }

/-- FRAME_ERROR: a failed frame changes no state except the port's own reply, in or out of start-up (R161,
R164). -/
def execFrameError (p : Port) (reason : FrameReason) (s : State) : Result :=
  .next (s.answer p oddReplyKind { status := .frameError, body := [reason.code] })

/-- UNKNOWN: the first gate of R162; the reply carries the KIND received. -/
def execUnknown (p : Port) (kind : Byte) (s : State) : Result :=
  .next (s.answer p oddReplyKind { status := .unknown, body := [kind] })

/-- SEL_HIGH: a partial frame is discarded, the receiver returns to HUNT, the reply stays, SDO goes to high
impedance (R159, R165). -/
def execSelHigh (p : Port) (s : State) : Result :=
  .next (s.setLink p { s.links[p] with sel := .high, sdo := none, rx := .hunt })

/-- REPLY_READY: the port builds the reply frame and enters SENDING (R163). -/
def execReplyReady (p : Port) (s : State) : Result :=
  match s.links[p].tx with
  | .preparing reply => .next (s.setLink p { s.links[p] with tx := .sending (frameBytes reply.kind reply.payload) 0 })
  | _ => .fault .noReplyPreparing

/-- PORT_RESET's effect on its own port's slot, pending causes and hit summaries, in one update (R152, R168,
R177); `takeRequest` leaves the link as R168 states. -/
def portReset (p : Port) (payload : List Byte) (s : State) : State × Answer :=
  match noArgs payload with
  | none => (s, refuse .badArg)
  | some _ =>
    let reset := s.resetSlot p
    ({ reset with attention := reset.attention.set p PortAttention.clear },
      { status := .ok, body := [s.slots[p].code] })

/-- PORT_RESET (R152, R168, R177). -/
def execPortReset (p : Port) (payload : List Byte) (s : State) : Result :=
  takeRequest p .portReset (portReset p payload) s

end Sys2Proof.Machine
end

