-- ==== Sys2Proof/Machine/ServicePosts.lean ====
section
/-! DEFINITION. Service posts and element history (chapter 7): SERVICE_POST_REPLACED, SERVICE_POST_INSPECTED,
SERVICE_POST_CORRECTED, HISTORY_READ, HISTORY_READ_COMPLETION. -/

namespace Sys2Proof.Machine

/-- The arguments of one form of SERVICE_POST as a modifying request carries them. -/
def postRequest (form : PostForm) (payload : List Byte) : Option (ElementIx × Generation × PostArgs) :=
  match postArgs form payload with
  | some a => some (a.index, a.generation, a)
  | none => none

/-- The reply of a taken SERVICE_POST (R128). -/
def postAnswer (e : ElementIx) (stored : Bool) (s : State) : Answer :=
  { status := .ok
    body := halfBytes e.val ++ [s.elements[e].generation] ++ bytes32 s.elements[e].wear ++
      dueBytes s.elements[e].due ++ [boolByte (!stored)] }

/-- A replaced element's record before its due is projected (R124). -/
def Element.replaced (r : Element) (opened : Interval) : Element :=
  { r with generation := r.generation + 1, wear := 0, residue := 0, flags := 0, limitLogged := false, start := opened }

/-- A taken replacement (R124, R125). -/
def postReplaced (e : ElementIx) (r : Element) (a : PostArgs) (s : State) : State × Answer :=
  let appended := s.appendHistory e
    { interval := s.openInterval, generation := r.generation + 1, wear := r.wear, body := .replaced a.note }
  let done := appended.1.reproject e (appended.1.elements[e].replaced s.openInterval)
  (done, postAnswer e appended.2 done)

/-- SERVICE_POST_REPLACED (R123, R124, R125, R128). -/
def execServicePostReplaced (p : Port) (payload : List Byte) (s : State) : Result :=
  takeRequest p .servicePost (modifyElement p .service (postRequest .replacement payload) postReplaced) s

/-- A taken inspection: the append and nothing else (R126). -/
def postInspected (e : ElementIx) (r : Element) (a : PostArgs) (s : State) : State × Answer :=
  let appended := s.appendHistory e
    { interval := s.openInterval, generation := r.generation, wear := r.wear, body := .inspected a.note }
  (appended.1, postAnswer e appended.2 appended.1)

/-- SERVICE_POST_INSPECTED (R123, R126, R128). -/
def execServicePostInspected (p : Port) (payload : List Byte) (s : State) : Result :=
  takeRequest p .servicePost (modifyElement p .service (postRequest .inspection payload) postInspected) s

/-- A taken correction (R127). -/
def postCorrected (e : ElementIx) (r : Element) (a : PostArgs) (s : State) : State × Answer :=
  let appended := s.appendHistory e
    { interval := s.openInterval, generation := r.generation, wear := r.wear,
      body := .corrected a.corrected a.note }
  let done := appended.1.reproject e { appended.1.elements[e] with wear := a.corrected, residue := 0 }
  (done, postAnswer e appended.2 done)

/-- SERVICE_POST_CORRECTED (R123, R127, R128). -/
def execServicePostCorrected (p : Port) (payload : List Byte) (s : State) : Result :=
  takeRequest p .servicePost (modifyElement p .service (postRequest .correction payload) postCorrected) s

/-- HISTORY_READ's argument check, then the port's slot (R140). -/
def historyReadChecks (p : Port) (payload : List Byte) (s : State) : State × Answer :=
  match historyReadArgs payload with
  | none => (s, refuse .badArg)
  | some (e, skip) => takeLong p (.historyRead e skip) payload s

/-- HISTORY_READ (R140, R146, R147, R150). -/
def execHistoryRead (p : Port) (payload : List Byte) (s : State) : Result :=
  takeRequest p .historyRead (historyReadChecks p payload) s

/-- The head of the chain a history read walks: a VACANT element returns the empty chain (R12, R141). -/
def Element.readHead (r : Element) : Option BlockIx :=
  match r.state with
  | .vacant => none
  | _ => r.head

/-- The result of a history read from the record and chain as they stand (R133, R141). -/
def historyResult (e : ElementIx) (skip : Fin 24) (s : State) : LongResult :=
  let r := s.elements[e]
  let records := chainRecords s.pool r.readHead
  .history r.state r.generation records.length (chainOf s.pool.alloc r.readHead).length skip
    ((records.drop skip.val).take Config.pageRecords)

/-- HISTORY_READ_COMPLETION (R141, R149). -/
def execHistoryReadCompletion (s : State) : Result :=
  match s.engine with
  | .lookup p =>
    match s.slots[p] with
    | .running copy =>
      match copy.request with
      | .historyRead e skip => .next (s.complete p copy (historyResult e skip s))
      | _ => .fault .noHistoryRead
    | _ => .fault .noHistoryRead
  | _ => .fault .noHistoryRead

end Sys2Proof.Machine
end

