-- ==== Sys2Proof/Machine/SharedEngine.lean ====
section
/-! DEFINITION. ELEMENT_FIND and the discard timer (chapter 8): ELEMENT_FIND, ELEMENT_FIND_COMPLETION,
DISCARD_TIMER_EXPIRY. -/

namespace Sys2Proof.Machine

/-- ELEMENT_FIND's argument check, then the port's slot (R153). -/
def elementFindChecks (p : Port) (payload : List Byte) (s : State) : State × Answer :=
  match findArgs payload with
  | none => (s, refuse .badArg)
  | some req => takeLong p req payload s

/-- ELEMENT_FIND (R153, R146, R147, R150). -/
def execElementFind (p : Port) (payload : List Byte) (s : State) : Result :=
  takeRequest p .elementFind (elementFindChecks p payload) s

/-- Whether an element matches a find (R154). -/
def findMatches (elements : Vector Element 512) (selector : Option MachineId) (flags : FlagSet)
    (start : Option ElementIx) (e : ElementIx) : Bool :=
  elements[e].state != .vacant &&
    (match selector with | none => true | some m => elements[e].machine = m) &&
    elements[e].flags &&& flags != 0 &&
    (match start with | none => true | some f => f < e)

/-- The matching indices in ascending order (R154). -/
def allMatches (elements : Vector Element 512) (selector : Option MachineId) (flags : FlagSet)
    (start : Option ElementIx) : List ElementIx :=
  (List.finRange 512).filter (findMatches elements selector flags start)

/-- The result of an element find: the first 16 matches, and MORE when another matched (R154). -/
def findResult (selector : Option MachineId) (flags : FlagSet) (start : Option ElementIx) (s : State) :
    LongResult :=
  let found := allMatches s.elements selector flags start
  .find (found.take Config.pageFinds) (Config.pageFinds < found.length)

/-- ELEMENT_FIND_COMPLETION (R154, R149). -/
def execElementFindCompletion (s : State) : Result :=
  match s.engine with
  | .lookup p =>
    match s.slots[p] with
    | .running copy =>
      match copy.request with
      | .elementFind selector flags start => .next (s.complete p copy (findResult selector flags start s))
      | _ => .fault .noElementFind
    | _ => .fault .noElementFind
  | _ => .fault .noElementFind

/-- DISCARD_TIMER_EXPIRY of a READY slot (R151). -/
def execDiscardTimerExpiry (p : Port) (s : State) : Result :=
  match s.slots[p] with
  | .ready _ _ _ => .next (s.discardResult p)
  | _ => .fault .noHeldResult

end Sys2Proof.Machine
end

