-- ==== Sys2Proof/Machine/Attention.lean ====
section
/-! DEFINITION. Attention requests (chapter 10): ATTN_READ, ATTN_CLEAR, ATTN_ENABLE. -/

namespace Sys2Proof.Machine

/-- A cause set in a frame: two bytes, most significant first (R171). -/
def causeBytes (c : CauseSet) : List Byte := bytes16 (c.setWidth 16)

/-- A hit summary in a reply: the count and the lowest index (R174, R175). -/
def HitSummary.bytes (h : HitSummary) : List Byte := bytes16 h.count ++ lowestBytes h.lowest

/-- A pending cause as ATTN_READ lists it: its code, and for a hit cause its summary (R174). -/
def PortAttention.causeEntry (a : PortAttention) (c : Cause) : List Byte :=
  byteOf c.code ::
    match c.hit with
    | some h => a.summaries[h.ix].bytes
    | none => []

/-- The pending causes in priority order (R174). -/
def PortAttention.pendingList (a : PortAttention) : List Cause := causes.filter (hasCause a.pending)

/-- The ATTN_READ reply (R174). -/
def attnAnswer (p : Port) (payload : List Byte) (s : State) : Answer :=
  match noArgs payload with
  | none => refuse .badArg
  | some _ =>
    let a := s.attention[p]
    { status := .ok
      body := causeBytes a.pending ++ causeBytes s.settings.enables[p] ++
        [boolByte a.line, byteOf a.pendingList.length] ++ a.pendingList.flatMap a.causeEntry }

/-- ATTN_READ (R174). -/
def execAttnRead (p : Port) (payload : List Byte) (s : State) : Result :=
  takeRequest p .attnRead (readOnly (attnAnswer p payload)) s

/-- One named hit cause's summary cleared (R175). -/
def clearSummary (named : CauseSet) (l : Vector HitSummary 4) (c : HitCause) : Vector HitSummary 4 :=
  if hasCause named c.cause then l.set c.ix HitSummary.clear else l

/-- A port's record after ATTN_CLEAR: the named causes removed, their summaries cleared; the line follows
(R171, R175). -/
def PortAttention.cleared (a : PortAttention) (named enable : CauseSet) : PortAttention :=
  { a with summaries := hitCauses.foldl (clearSummary named) a.summaries }.withPending
    (a.pending &&& ~~~named) enable

/-- The summaries that ATTN_CLEAR returns: each named hit cause that was pending, in priority order (R175; log 12). -/
def PortAttention.clearedBytes (a : PortAttention) (named : CauseSet) : List Byte :=
  (hitCauses.filter fun c => hasCause named c.cause && hasCause a.pending c.cause).flatMap fun c =>
    a.summaries[c.ix].bytes

/-- ATTN_CLEAR's argument check and effect (R175). -/
def attnClear (p : Port) (payload : List Byte) (s : State) : State × Answer :=
  match causeArgs payload with
  | none => (s, refuse .badArg)
  | some named =>
    ({ s with attention := s.attention.set p (s.attention[p].cleared named s.settings.enables[p]) },
      { status := .ok
        body := s.attention[p].clearedBytes named ++ causeBytes (s.attention[p].pending &&& ~~~named) })

/-- ATTN_CLEAR (R175). -/
def execAttnClear (p : Port) (payload : List Byte) (s : State) : Result :=
  takeRequest p .attnClear (attnClear p payload) s

/-- An enable set stored for a port; its line follows at once (R171, R176). -/
def State.setEnable (s : State) (p : Port) (enable : CauseSet) : State :=
  { s with
    settings := { s.settings with enables := s.settings.enables.set p enable }
    attention := s.attention.set p (s.attention[p].withPending s.attention[p].pending enable) }

/-- ATTN_ENABLE's argument check and effect (R176). -/
def attnEnable (p : Port) (payload : List Byte) (s : State) : State × Answer :=
  match causeArgs payload with
  | none => (s, refuse .badArg)
  | some enable =>
    let done := s.setEnable p enable
    (done,
      { status := .ok
        body := causeBytes enable ++ causeBytes done.attention[p].pending ++ [boolByte done.attention[p].line] })

/-- ATTN_ENABLE (R176). -/
def execAttnEnable (p : Port) (payload : List Byte) (s : State) : Result :=
  takeRequest p .attnEnable (attnEnable p payload) s

end Sys2Proof.Machine
end

