-- ==== Sys2Proof/Machine/Store.lean ====
section
/-! DEFINITION. Settings, start-up, status and the supply-low input (chapter 11): STATUS_READ, SETTINGS_READ, SETTINGS_WRITE,
RESTART, POWER_UP, RESET_LINE, ENTER_READY, SUPPLY_ASSERTION, SUPPLY_DEASSERTION. -/

namespace Sys2Proof.Machine

/-! ## STATUS_READ -/

/-- The remaining time in whole seconds, rounded up; 0 unless RUNNING (R34). -/
def IntervalTimer.seconds : IntervalTimer → Nat
  | .running halfSeconds => (halfSeconds + 1) / 2
  | _ => 0

/-- The closed interval, or NONE (R28). -/
def FoldState.closed : FoldState → Option Interval
  | .idle => none
  | .foldWait i => some i
  | .folding i => some i

/-- The KIND of the long request a slot holds, 0 for none. -/
def Slot.kindByte : Slot → Byte
  | .empty => 0
  | .waiting c | .running c | .ready c _ _ => c.request.kind.code

/-- The engine occupant: 0 none, 1 FOLD, 2 to 5 SP0 to SP3, then the KIND of that port's long request or 0 (R170,
R184). -/
def State.occupantBytes (s : State) : List Byte :=
  match s.engine with
  | .idle => [0, 0]
  | .fold _ => [1, 0]
  | .build p _ => [byteOf (2 + p.val), s.slots[p].kindByte]
  | .lookup p => [byteOf (2 + p.val), s.slots[p].kindByte]

/-- The STATUS_READ reply (R184). -/
def statusAnswer (payload : List Byte) (s : State) : Answer :=
  match noArgs payload with
  | none => refuse .badArg
  | some _ =>
    { status := .ok
      body := bytes32 s.openInterval ++ bytes32 s.lastFolded ++ dueBytes s.foldState.closed ++
        [s.activeBank.code, s.foldState.code, boolByte s.pendingTrigger, s.timer.code] ++
        halfBytes s.timer.seconds ++ s.occupantBytes ++ s.summary.bytes ++
        [s.supply.code, s.settings.supplyPolicy.code, s.origin.code] }

/-- STATUS_READ (R184). -/
def execStatusRead (p : Port) (payload : List Byte) (s : State) : Result :=
  takeRequest p .statusRead (readOnly (statusAnswer payload)) s

/-! ## Settings -/

/-- The value of an item as a reply carries it (R179, R180). -/
def Settings.read (st : Settings) : SettingItem → Half
  | .intervalLength => st.intervalLength.setWidth 16
  | .classWeight c => st.weights[c].setWidth 16
  | .smoothingShift m => BitVec.ofNat 16 st.shifts[m].val
  | .machineMode m => st.modes[m].code.setWidth 16
  | .roleSet p => st.roles[p].setWidth 16
  | .binding p => st.bindings[p].setWidth 16
  | .notifyPolicy p => st.policies[p].code.setWidth 16
  | .enableSet p => st.enables[p].setWidth 16
  | .discardTime p => st.discardTimes[p].code.setWidth 16
  | .tierBit r => st.tiers[r].code.setWidth 16
  | .supplyPolicy => st.supplyPolicy.code.setWidth 16

/-- The SETTINGS_READ reply (R180). -/
def settingsAnswer (payload : List Byte) (s : State) : Answer :=
  match settingsReadArgs payload with
  | none => refuse .badArg
  | some (item, code, index) => { status := .ok, body := [code, index] ++ bytes16 (s.settings.read item) }

/-- SETTINGS_READ (R180). -/
def execSettingsRead (p : Port) (payload : List Byte) (s : State) : Result :=
  takeRequest p .settingsRead (readOnly (settingsAnswer payload)) s

def policyArg (v : Half) : Option NotifyPolicy :=
  if v = 0 then some .immediate
  else if v = 1 then some .deferred
  else if v = 2 then some .summary
  else if v = 3 then some .none
  else none

def discardTimeArg (v : Half) : Option DiscardTime := if v = 0 then some .short else if v = 1 then some .long else none

def tierArg (v : Half) : Option Tier := if v = 0 then some .high else if v = 1 then some .low else none

def supplyPolicyArg (v : Half) : Option SupplyPolicy :=
  if v = 0 then some .fold else if v = 1 then some .freeze else none

/-- A smoothing shift, as 7 when it is above 7 (R179). -/
def clampShift (v : Half) : Fin 8 := ⟨min v.toNat 7, by omega⟩

/-- An interval length brought into 1 to 240 (R36, R179). -/
def clampLength (v : Half) : Byte := byteOf (max 1 (min v.toNat 240))

/-- A class weight, as 255 when it is above 255 (R179). -/
def clampWeight (v : Half) : Byte := byteOf (min v.toNat 255)

/-- Some port's role set holds ADMIN (R167). -/
def someAdmin (roles : Vector (BitVec 5) 4) : Bool := (List.finRange 4).any fun p => roles[p].getLsbD Role.admin.bit

/-- The settings after a write of one item; none when the value is refused or the item is written by MODE_SET only
(R167, R179, Table 11-2). -/
def Settings.write (st : Settings) (v : Half) : SettingItem → Option Settings
  | .intervalLength => some { st with intervalLength := clampLength v }
  | .classWeight c => some { st with weights := st.weights.set c (clampWeight v) }
  | .smoothingShift m => some { st with shifts := st.shifts.set m (clampShift v) }
  | .machineMode _ => none
  | .roleSet p =>
    let roles := st.roles.set p (v.extractLsb' 0 5)
    if v.toNat < 32 ∧ someAdmin roles then some { st with roles := roles } else none
  | .binding p =>
    if v.toNat < 16 then some { st with bindings := st.bindings.set p (v.extractLsb' 0 4) } else none
  | .notifyPolicy p => (policyArg v).map fun x => { st with policies := st.policies.set p x }
  | .enableSet p =>
    if v.toNat < 2048 then some { st with enables := st.enables.set p (v.extractLsb' 0 11) } else none
  | .discardTime p => (discardTimeArg v).map fun x => { st with discardTimes := st.discardTimes.set p x }
  | .tierBit r => (tierArg v).map fun x => { st with tiers := st.tiers.set r x }
  | .supplyPolicy => (supplyPolicyArg v).map fun x => { st with supplyPolicy := x }

/-- A written enable set acts on its port's line at once; no other item does (R176). -/
def State.applySetting (s : State) (st : Settings) : SettingItem → State
  | .enableSet p => { s with settings := st }.setEnable p st.enables[p]
  | _ => { s with settings := st }

/-- SETTINGS_WRITE's checks and effect (R179). -/
def settingsWrite (p : Port) (payload : List Byte) (s : State) : State × Answer :=
  if s.settings.holds p .admin = false then (s, refuse .denied)
  else
    match settingsWriteArgs payload with
    | none => (s, refuse .badArg)
    | some (item, code, index, v) =>
      match s.settings.write v item with
      | none => (s, refuse .badArg)
      | some st =>
        (s.applySetting st item,
          { status := if st.read item = v then .ok else .clamped
            body := [code, index] ++ bytes16 (st.read item) })

/-- SETTINGS_WRITE (R179). -/
def execSettingsWrite (p : Port) (payload : List Byte) (s : State) : Result :=
  takeRequest p .settingsWrite (settingsWrite p payload) s

/-! ## Start-up -/

/-- RESTART: role, then argument check; a taken one begins start-up at once and its reply is discarded unsent
(R181, R162). -/
def execRestart (p : Port) (payload : List Byte) (s : State) : Result :=
  match s.phase with
  | .starting => .next (s.answer p (replyKind .restart) (refuse .starting))
  | .ready =>
    if s.settings.holds p .admin = false then .next (s.answer p (replyKind .restart) (refuse .denied))
    else
      match noArgs payload with
      | none => .next (s.answer p (replyKind .restart) (refuse .badArg))
      | some _ => .next (s.beginStartUp (.port p))

/-- POWER_UP (R181). -/
def execPowerUp (s : State) : Result := .next (s.beginStartUp .power)

/-- RESET_LINE: an assertion of the RESET line begins start-up, or begins it again (R181). -/
def execResetLine (s : State) : Result := .next (s.beginStartUp .line)

/-- ENTER_READY: chain repair, queue rebuild, clearing of volatile state, then READY, in that order (R181 to
R183). -/
def execEnterReady (s : State) : Result :=
  match s.phase with
  | .starting => .next s.repair.rebuild.resetVolatile.becomeReady
  | .ready => .fault .notInStartUp

/-! ## The supply-low input -/

/-- An assertion outside start-up: SUPPLY at all four ports and, under FOLD, a trigger (R38, R185). -/
def State.supplyAsserted (s : State) : State :=
  let raised := raiseAt (fun _ => true) .supply { s with supply := .asserted }
  match s.settings.supplyPolicy with
  | .fold => raised.trigger
  | .freeze => raised

/-- SUPPLY_ASSERTION: the input is asserted. During start-up it changes no state of the part, and an input that
stays asserted is no further assertion (R38, R185). -/
def execSupplyAssertion (s : State) : Result :=
  let driven := { s with supplyPin := .asserted }
  match s.phase, s.supply with
  | .ready, .deasserted => .next driven.supplyAsserted
  | _, _ => .next driven

/-- SUPPLY_DEASSERTION: the input is deasserted; outside start-up the supply state follows, and nothing further
happens (R185). -/
def execSupplyDeassertion (s : State) : Result :=
  match s.phase with
  | .ready => .next { s with supplyPin := .deasserted, supply := .deasserted }
  | .starting => .next { s with supplyPin := .deasserted }

end Sys2Proof.Machine
end

