-- ==== Sys2Proof/Machine/TallyBanks.lean ====
section
/-! DEFINITION. The Tally Banks and the Interval Timer (chapter 2): PASS_REPORT, RUN_REPORT, RECKON_NOW,
INTERVAL_TIMER_EXPIRY. -/

namespace Sys2Proof.Machine

/-- Reports are held while the supply-low input is asserted under FREEZE (R23 check 4, R26). -/
def State.reportsHeld (s : State) : Bool := s.settings.supplyPolicy = .freeze && s.supply = .asserted

/-- The checks of a report in the order of Table 2-3: role, arguments, binding, hold. -/
def reportChecks {α : Type} (p : Port) (args : Option (MachineId × α))
    (act : MachineId → α → State → State × Answer) (s : State) : State × Answer :=
  if s.settings.holds p .report = false then (s, refuse .denied)
  else
    match args with
    | none => (s, refuse .badArg)
    | some (m, a) =>
      if s.settings.binds p m = false then (s, refuse .denied)
      else if s.reportsHeld then (s, refuse .held)
      else act m a s

/-- Whether an addition to a cell saturates: the true sum exceeds 65,535 (R22). -/
def saturates (cell : Half) (count : Byte) : Bool := Config.maxHalf < cell.toNat + count.toNat

/-- One entry added to its cell; the zone clip marker is set if the addition saturates (R21, R22, R24). -/
def ZoneTally.add (z : ZoneTally) (c : ItemClass) (count : Byte) : ZoneTally where
  cells := z.cells.set c (satHalf (z.cells[c].toNat + count.toNat))
  clip := z.clip || saturates z.cells[c] count

/-- One entry added to a machine's part of the bank (R24). -/
def MachineTally.pass (t : MachineTally) (n : PassEntry) : MachineTally :=
  { t with zones := t.zones.set n.zone (t.zones[n.zone].add n.itemClass n.count) }

/-- The entries added in turn, with the number of those whose addition saturated (R24). -/
def MachineTally.passAll (t : MachineTally) : List PassEntry → MachineTally × Nat
  | [] => (t, 0)
  | n :: rest =>
    let more := (t.pass n).passAll rest
    (more.1, more.2 + (saturates t.zones[n.zone].cells[n.itemClass] n.count).toNat)

/-- Seconds added to the run-time cell; the run clip marker is set if the addition saturates (R25). -/
def MachineTally.run (t : MachineTally) (seconds : Byte) : MachineTally :=
  { t with runTime := satHalf (t.runTime.toNat + seconds.toNat), runClip := t.runClip || saturates t.runTime seconds }

/-- A machine's part of the active bank replaced. -/
def State.writeActive (s : State) (m : MachineId) (t : MachineTally) : State :=
  s.setBank s.activeBank ((s.bank s.activeBank).set m t)

/-- A taken PASS_REPORT (R24). -/
def passReport (m : MachineId) (entries : List PassEntry) (s : State) : State × Answer :=
  let added := (s.bank s.activeBank)[m].passAll entries
  (s.writeActive m added.1, { status := .ok, body := bytes32 s.openInterval ++ [byteOf added.2] })

/-- PASS_REPORT (R23, R24, R26). -/
def execPassReport (p : Port) (payload : List Byte) (s : State) : Result :=
  takeRequest p .passReport (reportChecks p (passArgs payload) passReport) s

/-- A taken RUN_REPORT (R25). -/
def runReport (m : MachineId) (seconds : Byte) (s : State) : State × Answer :=
  let t := (s.bank s.activeBank)[m]
  (s.writeActive m (t.run seconds),
    { status := .ok, body := bytes32 s.openInterval ++ [boolByte (saturates t.runTime seconds)] })

/-- RUN_REPORT (R23, R25, R26). -/
def execRunReport (p : Port) (payload : List Byte) (s : State) : Result :=
  takeRequest p .runReport (reportChecks p (runArgs payload) runReport) s

/-- The effect and interval numbers of a RECKON_NOW reply: CLOSED carries the closed and the new open interval,
MARKED the open interval (R37). -/
def reckonBody (s : State) : List Byte :=
  s.triggerEffect.code ::
    match s.triggerEffect with
    | .closed => bytes32 s.openInterval ++ bytes32 (nextInterval s.openInterval)
    | .marked => bytes32 s.openInterval
    | .absorbed => []

/-- RECKON_NOW's role check comes before its argument check (R37, R162). -/
def reckonNow (p : Port) (payload : List Byte) (s : State) : State × Answer :=
  if (s.settings.holds p .report || s.settings.holds p .admin) = false then (s, refuse .denied)
  else
    match noArgs payload with
    | none => (s, refuse .badArg)
    | some _ => (s.trigger, { status := .ok, body := reckonBody s })

/-- RECKON_NOW (R37). -/
def execReckonNow (p : Port) (payload : List Byte) (s : State) : Result :=
  takeRequest p .reckonNow (reckonNow p payload) s

/-- INTERVAL_TIMER_EXPIRY: the remaining time of the RUNNING timer reaches zero (R34, R35). -/
def execIntervalTimerExpiry (s : State) : Result :=
  match s.timer with
  | .running _ => .next s.expireInterval
  | _ => .fault .timerNotRunning

end Sys2Proof.Machine
end

