-- ==== Sys2Proof/Machine/Windows.lean ====
section
/-! DEFINITION. Due queue reads (chapter 5), service windows and plans (chapter 6): QUEUE_READ, WINDOW_SET, WINDOW_DROP,
PLAN_BUILD, PLAN_READ, PLAN_BUILD_COMPLETION. -/

namespace Sys2Proof.Machine

/-- A page of a list: up to eight entries from a position onward (R94, R119). -/
def pageOf (l : List QueueEntry) (position : Nat) : List QueueEntry := (l.drop position).take Config.pageEntries

/-- The QUEUE_READ reply (R94). -/
def queueAnswer (payload : List Byte) (s : State) : Answer :=
  match queueArgs payload with
  | none => refuse .badArg
  | some (m, position) =>
    let page := pageOf s.queues[m].entries position.val
    { status := .ok
      body := byteOf m.val :: bytes16 s.queues[m].revision ++ halfBytes s.queues[m].entries.length ++
        halfBytes position.val ++ [byteOf page.length] ++ entryBytes page }

/-- QUEUE_READ (R94). -/
def execQueueRead (p : Port) (payload : List Byte) (s : State) : Result :=
  takeRequest p .queueRead (readOnly (queueAnswer payload)) s

/-- A window slot written. -/
def State.setWindow (s : State) (m : MachineId) (w : WindowSlot) (v : Option Window) : State :=
  { s with windows := s.windows.set m (s.windows[m].set w v) }

/-- A capacity above 32 is stored as 32 (R101). -/
def clampCapacity (c : Byte) : Byte := if 32 < c.toNat then 32 else c

/-- A taken WINDOW_SET (R101). -/
def windowSet (m : MachineId) (w : WindowSlot) (v : Window) (s : State) : State × Answer :=
  let stored := { v with capacity := clampCapacity v.capacity }
  let done := staleEvent m (s.setWindow m w (some stored))
  (done,
    { status := if stored.capacity = v.capacity then .ok else .clamped
      body := [byteOf m.val, byteOf w.val] ++ bytes32 stored.start ++ bytes32 stored.finish ++
        [stored.capacity, boolByte s.windows[m][w].isSome, done.plans[m].state.code] })

/-- WINDOW_SET's checks in the order of Table 6-2. -/
def windowSetChecks (p : Port) (payload : List Byte) (s : State) : State × Answer :=
  if s.settings.holds p .plan = false then (s, refuse .denied)
  else
    match windowSetArgs payload with
    | none => (s, refuse .badArg)
    | some (m, w, v) =>
      if v.finish < s.openInterval then (s, refuse .badArg)
      else if s.settings.binds p m = false then (s, refuse .denied)
      else windowSet m w v s

/-- WINDOW_SET (R100, R101). -/
def execWindowSet (p : Port) (payload : List Byte) (s : State) : Result :=
  takeRequest p .windowSet (windowSetChecks p payload) s

/-- A taken WINDOW_DROP: no change on an EMPTY slot (R102). -/
def windowDrop (m : MachineId) (w : WindowSlot) (s : State) : State × Answer :=
  let done :=
    match s.windows[m][w] with
    | some _ => staleEvent m (s.setWindow m w none)
    | none => s
  (done,
    { status := .ok
      body := [byteOf m.val, byteOf w.val, boolByte s.windows[m][w].isSome, done.plans[m].state.code] })

/-- WINDOW_DROP's checks in the order of Table 6-2. -/
def windowDropChecks (p : Port) (payload : List Byte) (s : State) : State × Answer :=
  if s.settings.holds p .plan = false then (s, refuse .denied)
  else
    match windowDropArgs payload with
    | none => (s, refuse .badArg)
    | some (m, w) => if s.settings.binds p m = false then (s, refuse .denied) else windowDrop m w s

/-- WINDOW_DROP (R100, R102). -/
def execWindowDrop (p : Port) (payload : List Byte) (s : State) : Result :=
  takeRequest p .windowDrop (windowDropChecks p payload) s

/-- PLAN_BUILD's checks, then the port's slot (R108). -/
def planBuildChecks (p : Port) (payload : List Byte) (s : State) : State × Answer :=
  if s.settings.holds p .plan = false then (s, refuse .denied)
  else
    match planBuildArgs payload with
    | none => (s, refuse .badArg)
    | some m =>
      if s.settings.binds p m = false then (s, refuse .denied) else takeLong p (.planBuild m) payload s

/-- PLAN_BUILD (R108, R146, R147, R150). -/
def execPlanBuild (p : Port) (payload : List Byte) (s : State) : Result :=
  takeRequest p .planBuild (planBuildChecks p payload) s

/-- The list of a plan that a selector names (R119). -/
def Plan.list (plan : Plan) : PlanList → List QueueEntry
  | .window slot => plan.windowLists[slot]
  | .unplaced => plan.unplaced

/-- The PLAN_READ reply (R119). -/
def planAnswer (payload : List Byte) (s : State) : Answer :=
  match planReadArgs payload with
  | none => refuse .badArg
  | some (m, list, position) =>
    let entries := s.plans[m].list list
    let page := pageOf entries position.val
    { status := .ok
      body := s.plans[m].state.code :: dueBytes s.plans[m].stamp ++
        [byteOf entries.length, byteOf page.length] ++ entryBytes page }

/-- PLAN_READ (R119). -/
def execPlanRead (p : Port) (payload : List Byte) (s : State) : Result :=
  takeRequest p .planRead (readOnly (planAnswer payload)) s

/-- The result of a completed build (R115): the plan state installed and the totals. -/
def Plan.result (plan : Plan) : LongResult :=
  .plan plan.state (placedTotal plan.windowLists) plan.unplacedTotal plan.beyond

/-- A completed build installed whole; a STALE installation raises PLAN_STALE (R107, R114). -/
def installPlan (run : BuildRun) (s : State) : State :=
  let installed := { s with plans := s.plans.set run.machine run.plan }
  if run.watch then raiseAt (planPorts s.settings run.machine) .planStale installed else installed

/-- PLAN_BUILD_COMPLETION (R114, R115, R149). -/
def execPlanBuildCompletion (s : State) : Result :=
  match s.engine with
  | .build p run =>
    match s.slots[p] with
    | .running copy => .next ((installPlan run s).complete p copy run.plan.result)
    | _ => .fault .noPlanBuild
  | _ => .fault .noPlanBuild

end Sys2Proof.Machine
end

