-- ==== Sys2Proof/Machine/LinkBytes.lean ====
section
/-! DEFINITION. LINK_BYTE: one byte each way on a port's link (R159 to R164). -/

namespace Sys2Proof.Machine

/-- What a received byte completed. -/
inductive FrameEvent where
  | nothing
  | complete (kind : Byte) (payload : List Byte)
  | failed (reason : FrameReason)
deriving DecidableEq, Repr

/-- The receiver takes a byte (R160, R161, Table 9-2). -/
def Receiver.take (rx : Receiver) (b : Byte) : Receiver × FrameEvent :=
  match rx with
  | .hunt => if b = Config.frameStart then (.kind, .nothing) else (.hunt, .nothing)
  | .kind => (.len b b, .nothing)
  | .len k sum =>
    if Config.maxRequestPayload < b.toNat then (.hunt, .failed .length)
    else if b = 0 then (.check k [] (sum + b), .nothing)
    else (.payload k b [] (sum + b), .nothing)
  | .payload k n bytes sum =>
    if n.toNat ≤ bytes.length + 1 then (.check k (bytes ++ [b]) (sum + b), .nothing)
    else (.payload k n (bytes ++ [b]) (sum + b), .nothing)
  | .check k bytes sum => (.endMark k bytes (sum + b), .nothing)
  | .endMark k bytes sum =>
    (.hunt,
      if b ≠ Config.frameEnd then .failed .endMark
      else if sum ≠ 0 then .failed .check
      else .complete k bytes)

/-- The byte clocked out and the transmitter after it: the next byte of the reply being sent, else fill; FILL after
the reply's last byte (R159, R163). -/
def Transmitter.clock : Transmitter → Byte × Transmitter
  | .sending frame next =>
    match frame[next]? with
    | some b => (b, if next + 1 < frame.length then .sending frame (next + 1) else .fill)
    | none => (Config.fillByte, .fill)
  | tx => (Config.fillByte, tx)

/-- A complete frame taken through the gates of R162: an unknown kind is answered UNKNOWN; a known kind runs its
row. -/
def takeFrame (p : Port) (kind : Byte) (payload : List Byte) (s : State) : Result :=
  match requestKindOf kind with
  | none => execUnknown p kind s
  | some .elementDefine => execElementDefine p payload s
  | some .elementVacate => execElementVacate p payload s
  | some .elementSuspend => execElementSuspend p payload s
  | some .elementResume => execElementResume p payload s
  | some .limitsSet => execLimitsSet p payload s
  | some .hitsAck => execHitsAck p payload s
  | some .elementRead => execElementRead p payload s
  | some .passReport => execPassReport p payload s
  | some .runReport => execRunReport p payload s
  | some .reckonNow => execReckonNow p payload s
  | some .modeSet => execModeSet p payload s
  | some .queueRead => execQueueRead p payload s
  | some .windowSet => execWindowSet p payload s
  | some .windowDrop => execWindowDrop p payload s
  | some .planBuild => execPlanBuild p payload s
  | some .planRead => execPlanRead p payload s
  | some .servicePost =>
    match postRow payload with
    | .replacement => execServicePostReplaced p payload s
    | .inspection => execServicePostInspected p payload s
    | .correction => execServicePostCorrected p payload s
  | some .historyRead => execHistoryRead p payload s
  | some .elementFind => execElementFind p payload s
  | some .portReset => execPortReset p payload s
  | some .attnRead => execAttnRead p payload s
  | some .attnClear => execAttnClear p payload s
  | some .attnEnable => execAttnEnable p payload s
  | some .statusRead => execStatusRead p payload s
  | some .settingsRead => execSettingsRead p payload s
  | some .settingsWrite => execSettingsWrite p payload s
  | some .restart => execRestart p payload s

/-- The link after one byte each way, before any frame it completes is taken. -/
def Link.exchange (l : Link) (b : Byte) : Link where
  sel := .low
  sdo := some l.tx.clock.1
  rx := (l.rx.take b).1
  tx := l.tx.clock.2

/-- LINK_BYTE: eight clock pulses with SEL low move one byte each way; a frame that the received byte completes or
fails is taken at that moment (R159 to R164). -/
def execLinkByte (p : Port) (received : Byte) (s : State) : Result :=
  let moved := s.setLink p (s.links[p].exchange received)
  match (s.links[p].rx.take received).2 with
  | .nothing => .next moved
  | .complete kind payload => takeFrame p kind payload moved
  | .failed reason => execFrameError p reason moved

end Sys2Proof.Machine
end

