-- ==== Sys2Proof/Machine/Dispatch.lean ====
section
/-! DEFINITION. One arm per command, each one direct call of its meaning. -/

namespace Sys2Proof.Machine

open Sys2Proof (Instr)

def exec (i : Instr) (s : State) : Host.Outcome State Fault Refusal :=
  match i with
  | .elementDefine p payload => Sys2Proof.Machine.execElementDefine p payload s
  | .elementVacate p payload => Sys2Proof.Machine.execElementVacate p payload s
  | .elementSuspend p payload => Sys2Proof.Machine.execElementSuspend p payload s
  | .elementResume p payload => Sys2Proof.Machine.execElementResume p payload s
  | .limitsSet p payload => Sys2Proof.Machine.execLimitsSet p payload s
  | .hitsAck p payload => Sys2Proof.Machine.execHitsAck p payload s
  | .elementRead p payload => Sys2Proof.Machine.execElementRead p payload s
  | .passReport p payload => Sys2Proof.Machine.execPassReport p payload s
  | .runReport p payload => Sys2Proof.Machine.execRunReport p payload s
  | .reckonNow p payload => Sys2Proof.Machine.execReckonNow p payload s
  | .modeSet p payload => Sys2Proof.Machine.execModeSet p payload s
  | .queueRead p payload => Sys2Proof.Machine.execQueueRead p payload s
  | .windowSet p payload => Sys2Proof.Machine.execWindowSet p payload s
  | .windowDrop p payload => Sys2Proof.Machine.execWindowDrop p payload s
  | .planBuild p payload => Sys2Proof.Machine.execPlanBuild p payload s
  | .planRead p payload => Sys2Proof.Machine.execPlanRead p payload s
  | .servicePostReplaced p payload => Sys2Proof.Machine.execServicePostReplaced p payload s
  | .servicePostInspected p payload => Sys2Proof.Machine.execServicePostInspected p payload s
  | .servicePostCorrected p payload => Sys2Proof.Machine.execServicePostCorrected p payload s
  | .historyRead p payload => Sys2Proof.Machine.execHistoryRead p payload s
  | .elementFind p payload => Sys2Proof.Machine.execElementFind p payload s
  | .portReset p payload => Sys2Proof.Machine.execPortReset p payload s
  | .attnRead p payload => Sys2Proof.Machine.execAttnRead p payload s
  | .attnClear p payload => Sys2Proof.Machine.execAttnClear p payload s
  | .attnEnable p payload => Sys2Proof.Machine.execAttnEnable p payload s
  | .statusRead p payload => Sys2Proof.Machine.execStatusRead p payload s
  | .settingsRead p payload => Sys2Proof.Machine.execSettingsRead p payload s
  | .settingsWrite p payload => Sys2Proof.Machine.execSettingsWrite p payload s
  | .restart p payload => Sys2Proof.Machine.execRestart p payload s
  | .frameError p reason => Sys2Proof.Machine.execFrameError p reason s
  | .unknown p kind => Sys2Proof.Machine.execUnknown p kind s
  | .selHigh p => Sys2Proof.Machine.execSelHigh p s
  | .replyReady p => Sys2Proof.Machine.execReplyReady p s
  | .intervalTimerExpiry => Sys2Proof.Machine.execIntervalTimerExpiry s
  | .supplyAssertion => Sys2Proof.Machine.execSupplyAssertion s
  | .supplyDeassertion => Sys2Proof.Machine.execSupplyDeassertion s
  | .powerUp => Sys2Proof.Machine.execPowerUp s
  | .resetLine => Sys2Proof.Machine.execResetLine s
  | .enterReady => Sys2Proof.Machine.execEnterReady s
  | .elementStep => Sys2Proof.Machine.execElementStep s
  | .foldCompletion => Sys2Proof.Machine.execFoldCompletion s
  | .markPlansStale => Sys2Proof.Machine.execMarkPlansStale s
  | .handDeferredHits => Sys2Proof.Machine.execHandDeferredHits s
  | .clearClosedBank => Sys2Proof.Machine.execClearClosedBank s
  | .releaseEngine => Sys2Proof.Machine.execReleaseEngine s
  | .planBuildCompletion => Sys2Proof.Machine.execPlanBuildCompletion s
  | .historyReadCompletion => Sys2Proof.Machine.execHistoryReadCompletion s
  | .elementFindCompletion => Sys2Proof.Machine.execElementFindCompletion s
  | .discardTimerExpiry p => Sys2Proof.Machine.execDiscardTimerExpiry p s
  | .linkByte p received => Sys2Proof.Machine.execLinkByte p received s

end Sys2Proof.Machine
end

