-- ==== Sys2Proof/Safety.lean ====
section
/-! DEFINITION. What counts as a safe state, and the conditions under which a request is taken, in the terms that the
claims use. -/

namespace Sys2Proof.Machine

/-! ## When a request is taken -/

/-- A request that needs a role and names a machine passes its role and binding checks in READY (R162, R167). -/
structure State.admits (s : State) (p : Port) (role : Role) (m : MachineId) : Prop where
  ready : s.phase = .ready
  holdsRole : s.settings.holds p role = true
  bound : s.settings.binds p m = true

/-- A request that modifies an existing element passes every check but that of its arguments (Table 1-5, Table
7-2). -/
structure State.mayModify (s : State) (p : Port) (role : Role) (e : ElementIx) (g : Generation) : Prop where
  ready : s.phase = .ready
  holdsRole : s.settings.holds p role = true
  defined : s.elements[e].state ≠ .vacant
  bound : s.settings.binds p s.elements[e].machine = true
  current : g = s.elements[e].generation

/-- A report passes its checks on role, binding and hold (Table 2-3). -/
structure State.takesReport (s : State) (p : Port) (m : MachineId) : Prop where
  ready : s.phase = .ready
  holdsRole : s.settings.holds p .report = true
  bound : s.settings.binds p m = true
  notHeld : ¬ (s.settings.supplyPolicy = .freeze ∧ s.supply = .asserted)

/-- A long request at a port and what it asks, once its own checks have passed (R108, R140, R153). -/
inductive LongRequestPasses (s : State) (p : Port) (payload : List Byte) : Instr → LongRequest → Prop where
  | planBuild (m : MachineId) (args : planBuildArgs payload = some m)
      (holdsRole : s.settings.holds p .plan = true) (bound : s.settings.binds p m = true) :
      LongRequestPasses s p payload (.planBuild p payload) (.planBuild m)
  | historyRead (e : ElementIx) (skip : Fin 24) (args : historyReadArgs payload = some (e, skip)) :
      LongRequestPasses s p payload (.historyRead p payload) (.historyRead e skip)
  | elementFind (selector : Option MachineId) (flags : FlagSet) (start : Option ElementIx)
      (args : findArgs payload = some (.elementFind selector flags start)) :
      LongRequestPasses s p payload (.elementFind p payload) (.elementFind selector flags start)

/-- No requester is in the waiting set. -/
def State.nothingWaits (s : State) : Prop := ∀ r : Fin 5, s.arbiter.waiting[r] = false

/-! ## Invariants -/

/-- A port's attention line is asserted exactly when its pending and enable sets share a cause (R171). -/
def LinesFollowSets (s : State) : Prop :=
  ∀ p : Port, s.attention[p].line = true ↔
    ∃ c : Cause, hasCause s.attention[p].pending c = true ∧ hasCause s.settings.enables[p] c = true

/-- What a record of the store may hold (R8, Table 1-1, Table 1-5). -/
structure Element.inRange (r : Element) : Prop where
  duty : 1 ≤ r.duty.toNat ∧ r.duty.toNat ≤ 64
  beltRate : r.kind = .roller → r.beltRate = 0
  plan : r.planAt ≠ 0 → r.limit ≠ 0 → r.planAt ≤ r.limit
  rate : r.rateHigh ≠ 0 → r.rateLow ≤ r.rateHigh

/-- What a window slot may hold (R99). -/
structure Window.inRange (w : Window) : Prop where
  span : w.start ≤ w.finish
  capacity : 1 ≤ w.capacity.toNat ∧ w.capacity.toNat ≤ 32

/-- The nonvolatile store holds values of its fields' ranges, and some port holds ADMIN (R8, R36, R99, R167). -/
structure StoreInRange (s : State) : Prop where
  elements : ∀ e : ElementIx, s.elements[e].inRange
  windows : ∀ (m : MachineId) (w : WindowSlot) (v : Window), s.windows[m][w] = some v → v.inRange
  intervalLength : 1 ≤ s.settings.intervalLength.toNat ∧ s.settings.intervalLength.toNat ≤ 240
  admin : ∃ p : Port, s.settings.holds p .admin = true

/-- A list in the order of a due queue: ascending due, then ascending index (R85). -/
def InDueOrder (l : List QueueEntry) : Prop :=
  l.Pairwise fun a b => a.due < b.due ∨ (a.due = b.due ∧ a.index < b.index)

/-- Each queue is in order and holds exactly the ACTIVE elements of its machine whose due is not NONE (R85, R86). -/
def QueuesMatchRecords (s : State) : Prop :=
  s.phase = .ready → ∀ m : MachineId,
    InDueOrder s.queues[m].entries ∧
    ∀ (e : ElementIx) (d : Interval), { index := e, due := d } ∈ s.queues[m].entries ↔
      s.elements[e].state = .active ∧ s.elements[e].machine = m ∧ s.elements[e].due = some d

/-- The requester whose operation occupies the engine (R143). -/
def Engine.occupant : Engine → Option Requester
  | .idle => none
  | .fold _ => some .fold
  | .build p _ => some (.slot p)
  | .lookup p => some (.slot p)

/-- Slots, fold state, waiting set and engine tell one story: a requester waits exactly while its slot is WAITING or
the fold state is FOLD_WAIT, a slot is RUNNING exactly while the engine runs its operation, the fold state is FOLDING
exactly while a fold before its fifth stage runs, and an idle engine has nothing waiting (R31, R144, R155, R156). -/
structure EngineAgreement (s : State) : Prop where
  slotWaits : ∀ p : Port, (∃ c, s.slots[p] = .waiting c) ↔ s.arbiter.waiting[p.succ] = true
  slotRuns : ∀ p : Port, (∃ c, s.slots[p] = .running c) ↔ s.engine.occupant = some (.slot p)
  foldWaits : (∃ i, s.foldState = .foldWait i) ↔ s.arbiter.waiting[(0 : Fin 5)] = true
  folds : (∃ i, s.foldState = .folding i) ↔ ∃ run, s.engine = .fold run ∧ run.stage ≠ .release
  idle : s.engine = .idle → s.nothingWaits

/-- EngineAgreement outside start-up. -/
def EngineAgrees (s : State) : Prop := s.phase = .ready → EngineAgreement s

/-- The relation of the open interval, the closed interval and F by fold state and stage, with the closed bank zero
and no pending trigger in IDLE (R28, R39). -/
def IntervalNumbersAgree (s : State) : Prop :=
  s.phase = .ready →
    match s.foldState with
    | .idle =>
      s.openInterval = nextInterval s.lastFolded ∧ s.pendingTrigger = false ∧ s.closedBank = Bank.zero ∧
        ∀ run, s.engine = .fold run → run.stage = .release
    | .foldWait closed =>
      closed = nextInterval s.lastFolded ∧ s.openInterval = nextInterval closed ∧
        ∀ run, s.engine = .fold run → run.stage = .release
    | .folding closed =>
      s.openInterval = nextInterval closed ∧ ∃ run, s.engine = .fold run ∧ run.interval = closed ∧
        match run.stage with
        | .step _ => closed = nextInterval s.lastFolded
        | .store => closed = nextInterval s.lastFolded
        | .markStale => closed = s.lastFolded
        | .handHits => closed = s.lastFolded
        | .clearBank => closed = s.lastFolded
        | .release => False

/-- A chain that R131 admits: it ends at a LAST entry within four blocks. -/
def EndsInLast (alloc : Vector AllocEntry 256) (head : BlockIx) : Prop :=
  ∃ tail top, (chainOf alloc (some head)).getLast? = some tail ∧ alloc[tail] = .last top

/-- Every block is FREE or belongs to exactly one element's chain, every chain ends at a LAST entry within four
blocks, and a VACANT record owns none (R11, R131). -/
structure ChainsMeetR131 (elements : Vector Element 512) (alloc : Vector AllocEntry 256) : Prop where
  vacant : ∀ e : ElementIx, elements[e].state = .vacant → elements[e].head = none
  ends : ∀ (e : ElementIx) (b : BlockIx), elements[e].head = some b → EndsInLast alloc b
  owned : ∀ b : BlockIx, alloc[b] ≠ .free → ∃ e : ElementIx, b ∈ chainOf alloc elements[e].head
  disjoint : ∀ (e f : ElementIx) (b : BlockIx), b ∈ chainOf alloc elements[e].head →
    b ∈ chainOf alloc elements[f].head → e = f

end Sys2Proof.Machine
end

