-- ==== Sys2Proof/Certificates/Slice0/Obligations.lean ====
section
/-! DEFINITION. The statements for the provers, rule by rule of spec/. -/

open Sys2Proof Sys2Proof.Machine

/-! ## The step and the reset -/

/-- A step runs the command at the front of the queue with the queue's rest. -/
def Obligations.StepRunsTheFrontCommand : Prop :=
  ∀ (s : State) (c : Instr) (rest : List Instr), s.pending = c :: rest →
    step s = exec c { s with pending := rest }

/-- The model's choice (log 3, log 13): with nothing waiting a step is half a second of the part's clock. During
start-up nothing runs. While no timer reaches zero each running timer loses half a second and nothing else changes;
when only the Interval Timer reaches zero it expires; when only one discard timer runs and reaches zero its result is
discarded. Whatever runs together, and whichever timers reach zero in the same half second, the Interval Timer counts down
or expires (R35), each held result loses half a second or is discarded with DISCARD at its own port (R151), and nothing
else changes. -/
def Obligations.EmptyQueueStepIsHalfASecond : Prop :=
  ∀ s : State, s.pending = [] →
    (s.phase = .starting → step s = .next s) ∧
    (s.phase = .ready → (∀ n, s.timer = .running n → 1 < n) →
      (∀ (p : Port) c r n, s.slots[p] = .ready c r n → 1 < n) →
      step s = .next { s with
        timer := match s.timer with | .running n => .running (n - 1) | other => other
        slots := s.slots.map fun slot => match slot with | .ready c r n => .ready c r (n - 1) | other => other }) ∧
    (s.phase = .ready → (∃ n, s.timer = .running n ∧ n ≤ 1) → (∀ (p : Port) c r n, s.slots[p] ≠ .ready c r n) →
      step s = .next s.expireInterval) ∧
    (∀ p : Port, s.phase = .ready → (∀ n, s.timer ≠ .running n) → (∃ c r n, s.slots[p] = .ready c r n ∧ n ≤ 1) →
      (∀ (q : Port) c r n, q ≠ p → s.slots[q] ≠ .ready c r n) →
      step s = .next (raiseAt (fun q => q = p) .discard { s with slots := s.slots.set p .empty })) ∧
    (s.phase = .ready →
      let counted : State := match s.timer with
        | .running n =>
          if 1 < n then { s with timer := .running (n - 1) }
          else if s.foldState = .idle then s.swap
          else { s with pendingTrigger := true, timer := .expired }
        | _ => s
      ∃ t, step s = .next t ∧ t = { counted with slots := t.slots, attention := t.attention } ∧
        ∀ p : Port,
          (∀ c r n, s.slots[p] = .ready c r n → 1 < n →
            t.slots[p] = .ready c r (n - 1) ∧ t.attention[p] = s.attention[p]) ∧
          (∀ c r n, s.slots[p] = .ready c r n → n ≤ 1 →
            t.slots[p] = .empty ∧ t.attention[p] = (raiseAt (fun q => q = p) .discard s).attention[p]) ∧
          ((∀ c r n, s.slots[p] ≠ .ready c r n) →
            t.slots[p] = counted.slots[p] ∧ t.attention[p] = s.attention[p]))

/-- The state after reset is a blank store (Tables 1-4, 3-9, 11-1, 11-2) with the volatile state of R40, R97, R104,
R155, R169 and R177, in start-up, and meets every invariant. The model's choice (log 5): that reset stands at the
beginning of start-up with origin POWER, and that it already holds the volatile values that those rules give at READY.
The level of SEL and SUPLO and the supply state before its first sample (log 6, log 7) are not stated here. -/
def Obligations.ResetIsABlankStoreInStartUp : Prop :=
  let s := State.reset
  (∀ e : ElementIx, s.elements[e] =
    { state := .vacant, kind := .roller, machine := 0, zone := 0, duty := 16, beltRate := 0, wear := 0, residue := 0,
      rate := 0, planAt := 0, limit := 0, rateLow := 0, rateHigh := 0, flags := 0, limitLogged := false, due := none,
      start := 0, generation := 0, head := none }) ∧
  (∀ b : BlockIx, s.pool.alloc[b] = .free) ∧
  (∀ (m : MachineId) (w : WindowSlot), s.windows[m][w] = none) ∧
  s.lastFolded = 0 ∧ s.origin = .power ∧
  s.summary = { interval := 0, credited := 0, rateOnly := 0, skipped := 0, newHits := 0, saturatedCells := 0,
                discarded := Vector.replicate 4 false } ∧
  s.settings.intervalLength = 15 ∧ (∀ c : ItemClass, s.settings.weights[c] = 1) ∧
  (∀ m : MachineId, s.settings.shifts[m] = 3 ∧ s.settings.modes[m] = .checked) ∧
  (∀ (p : Port) (r : Role) (m : MachineId), s.settings.holds p r = true ∧ s.settings.binds p m = true) ∧
  (∀ (p : Port) (c : Cause), s.settings.policies[p] = .immediate ∧ hasCause s.settings.enables[p] c = true ∧
    s.settings.discardTimes[p] = .long) ∧
  s.settings.tiers = #v[.high, .low, .low, .low, .low] ∧ s.settings.supplyPolicy = .fold ∧
  s.bankA = Bank.zero ∧ s.bankB = Bank.zero ∧ s.activeBank = .a ∧ s.openInterval = 1 ∧ s.foldState = .idle ∧
  s.pendingTrigger = false ∧ s.timer = .stopped ∧ s.engine = .idle ∧
  s.arbiter = { high := .low, low := .fold, waiting := Vector.replicate 5 false } ∧
  (∀ p : Port, s.slots[p] = .empty ∧ s.links[p].rx = .hunt ∧ s.links[p].tx = .fill ∧
    s.attention[p].pending = 0 ∧ s.attention[p].line = false) ∧
  (∀ m : MachineId, s.queues[m] = { entries := [], revision := 0 } ∧ s.plans[m].state = .none ∧
    s.plans[m].stamp = none) ∧
  s.phase = .starting ∧ s.pending = [] ∧
  LinesFollowSets s ∧ StoreInRange s ∧ QueuesMatchRecords s ∧ EngineAgrees s ∧ IntervalNumbersAgree s ∧
    ChainsMeetR131 s.elements s.pool.alloc

/-! ## Element Table (chapter 1) -/

/-- A taken ELEMENT_DEFINE writes the whole record with the clamped values (R8, R9) and appends one DEFINED record to a
new chain in the lowest FREE block, or raises HISTORY_LOST when no block is FREE (R10). -/
def Obligations.ElementDefineWritesTheRecord : Prop :=
  ∀ (s : State) (p : Port) (payload : List Byte) (a : DefineArgs),
    s.admits p .service a.machine → defineArgs payload = some a → s.elements[a.index].state = .vacant →
    let r : Element :=
      { state := .active, kind := a.kind, machine := a.machine, zone := a.zone
        duty := if a.duty = 0 then 1 else if 64 < a.duty.toNat then 64 else a.duty
        beltRate := if a.kind = .roller then 0 else a.beltRate
        wear := 0, residue := 0, rate := 0
        planAt := if a.limit ≠ 0 ∧ a.limit < a.planAt then a.limit else a.planAt
        limit := a.limit, rateLow := a.rateLow, rateHigh := a.rateHigh
        flags := 0, limitLogged := false, due := none, start := s.openInterval
        generation := s.elements[a.index].generation + 1, head := none }
    let h : HistoryRecord :=
      { interval := s.openInterval, generation := r.generation, wear := 0, body := .defined 0 }
    let reply : Answer :=
      { status := if r.duty = a.duty ∧ r.beltRate = a.beltRate ∧ r.planAt = a.planAt then .ok else .clamped
        body := bytes16 (BitVec.ofNat 16 a.index.val) ++ [r.generation, r.duty, r.beltRate] ++ bytes32 r.planAt }
    (∀ b : BlockIx, s.pool.alloc[b] = .free → (∀ c : BlockIx, c < b → s.pool.alloc[c] ≠ .free) →
      exec (.elementDefine p payload) s = .next
        ({ s with
            elements := s.elements.set a.index { r with head := some b }
            pool :=
              { alloc := s.pool.alloc.set b (.last 0)
                blocks := s.pool.blocks.set b (s.pool.blocks[b].set 0 h) } }.answer p 0x90#8 reply)) ∧
    ((∀ b : BlockIx, s.pool.alloc[b] ≠ .free) →
      exec (.elementDefine p payload) s = .next
        ((raiseAt (fun q => s.settings.binds q a.machine) .historyLost
            { s with elements := s.elements.set a.index r }).answer p 0x90#8 reply))

/-- A taken ELEMENT_VACATE takes the element out of its queue and its plan, frees its chain, clears flags, limit logged
and due, keeps the generation and every other field, and is a staleness event for its machine (R11, R118, R139). -/
def Obligations.ElementVacateEndsTheTenancy : Prop :=
  ∀ (s : State) (p : Port) (payload : List Byte) (e : ElementIx) (g : Generation),
    s.mayModify p .service e g → tenancyArgs payload = some (e, g) →
    let r := s.elements[e]
    let plan := s.plans[r.machine]
    exec (.elementVacate p payload) s = .next
      ((staleEvent r.machine
        { s with
          elements := s.elements.set e
            { r with state := .vacant, flags := 0, limitLogged := false, due := none, head := none }
          queues := s.queues.set r.machine (s.queues[r.machine].remove e)
          plans := s.plans.set r.machine
            { plan with
              windowLists := plan.windowLists.map fun l => l.filter fun x => x.index ≠ e
              unplaced := plan.unplaced.filter fun x => x.index ≠ e }
          pool :=
            { s.pool with
              alloc := Vector.ofFn fun b =>
                if b ∈ chainOf s.pool.alloc r.head then .free else s.pool.alloc[b] } }).answer p 0x91#8
        { status := .ok, body := bytes16 (BitVec.ofNat 16 e.val) ++ [g] })

/-- ELEMENT_SUSPEND of an ACTIVE element sets it SUSPENDED, takes it out of its queue and is a staleness event;
ELEMENT_RESUME of a SUSPENDED one sets it ACTIVE, projects its due with base F, places it and is a staleness event; on a
SUSPENDED, or an ACTIVE, element they change nothing but the reply (R13, R14). -/
def Obligations.SuspendAndResumeMoveTheElement : Prop :=
  ∀ (s : State) (p : Port) (payload : List Byte) (e : ElementIx) (g : Generation),
    s.mayModify p .service e g → tenancyArgs payload = some (e, g) →
    let r := s.elements[e]
    let due := project r.wear r.rate r.limit s.lastFolded
    (r.state = .active →
      exec (.elementSuspend p payload) s = .next
        ((staleEvent r.machine
          { s with
            elements := s.elements.set e { r with state := .suspended }
            queues := s.queues.set r.machine (s.queues[r.machine].remove e) }).answer p 0x92#8
          { status := .ok, body := 2#8 :: dueBytes r.due }) ∧
      exec (.elementResume p payload) s = .next
        (s.answer p 0x93#8 { status := .ok, body := 1#8 :: dueBytes r.due })) ∧
    (r.state = .suspended →
      exec (.elementSuspend p payload) s = .next
        (s.answer p 0x92#8 { status := .ok, body := 2#8 :: dueBytes r.due }) ∧
      exec (.elementResume p payload) s = .next
        ((staleEvent r.machine
          { s with
            elements := s.elements.set e { r with state := .active, due := due }
            queues := s.queues.set r.machine (s.queues[r.machine].place e due) }).answer p 0x93#8
          { status := .ok, body := 1#8 :: dueBytes due }))

/-- A taken LIMITS_SET stores the four values after the clamping of P and the due projected with base F, moves the queue
entry of an ACTIVE element only, and is a staleness event in either state (R15, R16). -/
def Obligations.LimitsSetStoresAndReprojects : Prop :=
  ∀ (s : State) (p : Port) (payload : List Byte) (e : ElementIx) (g : Generation) (v : LimitValues),
    s.mayModify p .plan e g → limitsArgs payload = some (e, g, v) →
    let r := s.elements[e]
    let planAt := if v.limit ≠ 0 ∧ v.limit < v.planAt then v.limit else v.planAt
    let due := project r.wear r.rate v.limit s.lastFolded
    (v.rateHigh = 0 ∨ v.rateLow ≤ v.rateHigh) ∧
    exec (.limitsSet p payload) s = .next
      ((staleEvent r.machine
        { s with
          elements := s.elements.set e
            { r with planAt := planAt, limit := v.limit, rateLow := v.rateLow, rateHigh := v.rateHigh, due := due }
          queues :=
            if r.state = .active then s.queues.set r.machine (s.queues[r.machine].place e due)
            else s.queues }).answer p 0x94#8
        { status := if planAt = v.planAt then .ok else .clamped
          body := bytes32 planAt ++ bytes32 v.limit ++ bytes16 v.rateLow ++ bytes16 v.rateHigh ++ dueBytes due })

/-- A taken HITS_ACK clears every named flag of the record, leaves the others, and changes nothing else but the reply,
which carries the flags left set (R17). -/
def Obligations.HitsAckClearsTheNamedFlags : Prop :=
  ∀ (s : State) (p : Port) (payload : List Byte) (e : ElementIx) (g : Generation) (named : FlagSet),
    s.mayModify p .ack e g → ackArgs payload = some (e, g, named) →
    ∃ left : FlagSet,
      (∀ f : HitFlag, hasFlag left f = (hasFlag s.elements[e].flags f && !hasFlag named f)) ∧
      exec (.hitsAck p payload) s = .next
        ({ s with elements := s.elements.set e { s.elements[e] with flags := left } }.answer p 0x95#8
          { status := .ok, body := [left.setWidth 8] })

/-- ELEMENT_READ needs no role and no binding, changes nothing but the reply, and returns the record in the layout of
Table 9-6; a VACANT record reports 0 after the generation; an index of 512 or more, or a payload of another length, is
answered BAD_ARG (R18, R162, R170). -/
def Obligations.ElementReadReturnsTheRecord : Prop :=
  ∀ (s : State) (p : Port) (i1 i0 : Byte), s.phase = .ready →
    (∀ e : ElementIx, (be16 i1 i0).toNat = e.val →
      let r := s.elements[e]
      (r.state = .vacant → exec (.elementRead p [i1, i0]) s = .next (s.answer p 0x96#8
        { status := .ok, body := [i1, i0, 0#8, r.generation] ++ List.replicate 39 0#8 })) ∧
      (r.state ≠ .vacant → exec (.elementRead p [i1, i0]) s = .next (s.answer p 0x96#8
        { status := .ok
          body := [i1, i0, if r.state = .active then 1#8 else 2#8, r.generation,
              if r.kind = .roller then 0#8 else 1#8, BitVec.ofNat 8 r.machine.val, BitVec.ofNat 8 r.zone.val,
              r.duty, r.beltRate] ++ bytes32 r.wear ++ [BitVec.ofNat 8 r.residue.val] ++ bytes32 r.rate ++
            bytes32 r.planAt ++ bytes32 r.limit ++ bytes16 r.rateLow ++ bytes16 r.rateHigh ++
            [r.flags.setWidth 8, if r.limitLogged then 1#8 else 0#8] ++
            (match r.due with | none => [0#8, 0#8, 0#8, 0#8, 0#8] | some d => 1#8 :: bytes32 d) ++
            bytes32 r.start ++
            (match r.head with | none => [0#8, 0#8] | some b => [1#8, BitVec.ofNat 8 b.val]) }))) ∧
    (512 ≤ (be16 i1 i0).toNat →
      exec (.elementRead p [i1, i0]) s = .next (s.answer p 0x96#8 { status := .badArg, body := [] })) ∧
    (∀ payload, payload.length ≠ 2 →
      exec (.elementRead p payload) s = .next (s.answer p 0x96#8 { status := .badArg, body := [] }))

/-- The eight requests that modify a defined element are refused in the order role, arguments, VACANT, binding,
generation, and ELEMENT_DEFINE in the order role, arguments, binding, OCCUPIED; a refusal changes nothing but the reply,
and STALE and VACANT report the record's generation (R6, R7, R19, R123). The model's reading: the other refusals carry the
status alone (log 22);
a SERVICE_POST whose presence byte is neither 0 nor 1 fails the argument check (log 11), and so does, in each of its three
rows, a payload of another form (log 2). -/
def Obligations.ElementRequestsAreRefusedInOrder : Prop :=
  ∀ (s : State) (p : Port) (payload : List Byte), s.phase = .ready →
    (∀ x ∈ ([(.elementVacate p payload, 0x91#8, .service, tenancyArgs payload),
        (.elementSuspend p payload, 0x92#8, .service, tenancyArgs payload),
        (.elementResume p payload, 0x93#8, .service, tenancyArgs payload),
        (.limitsSet p payload, 0x94#8, .plan, (limitsArgs payload).map fun a => (a.1, a.2.1)),
        (.hitsAck p payload, 0x95#8, .ack, (ackArgs payload).map fun a => (a.1, a.2.1)),
        (.servicePostReplaced p payload, 0xD0#8, .service,
          (postArgs .replacement payload).map fun a => (a.index, a.generation)),
        (.servicePostInspected p payload, 0xD0#8, .service,
          (postArgs .inspection payload).map fun a => (a.index, a.generation)),
        (.servicePostCorrected p payload, 0xD0#8, .service,
          (postArgs .correction payload).map fun a => (a.index, a.generation))] :
        List (Instr × Byte × Role × Option (ElementIx × Generation))),
      let refused (st : Status) (body : List Byte) :=
        exec x.1 s = .next (s.answer p x.2.1 { status := st, body := body })
      (s.settings.holds p x.2.2.1 = false → refused .denied []) ∧
      (s.settings.holds p x.2.2.1 = true →
        (x.2.2.2 = none → refused .badArg []) ∧
        ∀ e g, x.2.2.2 = some (e, g) →
          (s.elements[e].state = .vacant → refused .vacant [s.elements[e].generation]) ∧
          (s.elements[e].state ≠ .vacant → s.settings.binds p s.elements[e].machine = false → refused .denied []) ∧
          (s.elements[e].state ≠ .vacant → s.settings.binds p s.elements[e].machine = true →
            g ≠ s.elements[e].generation → refused .stale [s.elements[e].generation]))) ∧
    let refused (st : Status) :=
      exec (.elementDefine p payload) s = .next (s.answer p 0x90#8 { status := st, body := [] })
    (s.settings.holds p .service = false → refused .denied) ∧
    (s.settings.holds p .service = true →
      (defineArgs payload = none → refused .badArg) ∧
      ∀ a, defineArgs payload = some a →
        (s.settings.binds p a.machine = false → refused .denied) ∧
        (s.settings.binds p a.machine = true → s.elements[a.index].state ≠ .vacant → refused .occupied))

/-- During start-up every complete frame of a known kind is answered STARTING and not acted on, PORT_RESET and RESTART
included (R162, second gate). -/
def Obligations.StartUpAnswersStarting : Prop :=
  ∀ (s : State) (p : Port) (payload : List Byte) (k : RequestKind), s.phase = .starting →
    exec (requestOfFrame p payload k) s =
      .next (s.answer p (k.code + 0x80#8) { status := .starting, body := [] })

/-! ## Tally banks and Interval Timer (chapter 2) -/

/-- A taken PASS_REPORT adds the entries of each cell to the active bank with saturation at 65,535, sets the clip marker
of each zone in which a true sum exceeds 65,535, changes nothing else but the reply, and answers with the open interval
and the number of entries whose addition saturated (R21, R22, R24). -/
def Obligations.PassReportAddsToTheActiveBank : Prop :=
  ∀ (s : State) (p : Port) (payload : List Byte) (m : MachineId) (entries : List PassEntry),
    s.takesReport p m → passArgs payload = some (m, entries) →
    let before := (s.bank s.activeBank)[m]
    let sumOf (l : List PassEntry) (z : Zone) (c : ItemClass) : Nat :=
      (l.map fun n => if n.zone = z ∧ n.itemClass = c then n.count.toNat else 0).sum
    ∃ (after : MachineTally) (saturated : Nat),
      (∀ (z : Zone) (c : ItemClass),
        after.zones[z].cells[c].toNat = min (before.zones[z].cells[c].toNat + sumOf entries z c) 65535) ∧
      (∀ z : Zone, after.zones[z].clip = true ↔ before.zones[z].clip = true ∨
        ∃ c : ItemClass, 65535 < before.zones[z].cells[c].toNat + sumOf entries z c) ∧
      after.runTime = before.runTime ∧ after.runClip = before.runClip ∧
      saturated = ((List.range entries.length).filter fun i =>
        match entries[i]? with
        | some n => 65535 <
            before.zones[n.zone].cells[n.itemClass].toNat + sumOf (entries.take (i + 1)) n.zone n.itemClass
        | none => false).length ∧
      exec (.passReport p payload) s = .next
        ((s.setBank s.activeBank ((s.bank s.activeBank).set m after)).answer p 0xA0#8
          { status := .ok, body := bytes32 s.openInterval ++ [BitVec.ofNat 8 saturated] })

/-- A taken RUN_REPORT adds its seconds to the machine's run-time cell of the active bank with saturation, sets the run
clip marker if the true sum exceeds 65,535, and changes nothing else but the reply (R21, R22, R25). -/
def Obligations.RunReportAddsToTheActiveBank : Prop :=
  ∀ (s : State) (p : Port) (payload : List Byte) (m : MachineId) (seconds : Byte),
    s.takesReport p m → runArgs payload = some (m, seconds) →
    let before := (s.bank s.activeBank)[m]
    let total := before.runTime.toNat + seconds.toNat
    exec (.runReport p payload) s = .next
      ((s.setBank s.activeBank ((s.bank s.activeBank).set m
        { before with
          runTime := BitVec.ofNat 16 (if 65535 < total then 65535 else total)
          runClip := before.runClip || decide (65535 < total) })).answer p 0xA1#8
        { status := .ok, body := bytes32 s.openInterval ++ [if 65535 < total then 1#8 else 0#8] })

/-- A report is refused in the order role, arguments, binding, hold, and a refused report, HELD under FREEZE while the
supply state is ASSERTED, adds nothing to any cell (R23, R26). -/
def Obligations.ReportsAreRefusedInOrder : Prop :=
  ∀ (s : State) (p : Port) (payload : List Byte), s.phase = .ready →
    ∀ x ∈ ([(.passReport p payload, 0xA0#8, (passArgs payload).map fun a => a.1),
        (.runReport p payload, 0xA1#8, (runArgs payload).map fun a => a.1)] :
        List (Instr × Byte × Option MachineId)),
      let refused (st : Status) := exec x.1 s = .next (s.answer p x.2.1 { status := st, body := [] })
      (s.settings.holds p .report = false → refused .denied) ∧
      (s.settings.holds p .report = true →
        (x.2.2 = none → refused .badArg) ∧
        ∀ m, x.2.2 = some m →
          (s.settings.binds p m = false → refused .denied) ∧
          (s.settings.binds p m = true → s.settings.supplyPolicy = .freeze → s.supply = .asserted → refused .held))

/-- RECKON_NOW is a trigger from a port with REPORT or ADMIN, with the effect CLOSED, MARKED or ABSORBED by fold state
and pending trigger; from any other port it is DENIED and no trigger (R37). -/
def Obligations.ReckonNowHasOneOfThreeEffects : Prop :=
  ∀ (s : State) (p : Port), s.phase = .ready →
    ((s.settings.holds p .report = true ∨ s.settings.holds p .admin = true) →
      (s.foldState = .idle → exec (.reckonNow p []) s = .next (s.swap.answer p 0xA2#8
        { status := .ok, body := 0#8 :: (bytes32 s.openInterval ++ bytes32 s.swap.openInterval) })) ∧
      (s.foldState ≠ .idle → s.pendingTrigger = false →
        exec (.reckonNow p []) s = .next ({ s with pendingTrigger := true }.answer p 0xA2#8
          { status := .ok, body := 1#8 :: bytes32 s.openInterval })) ∧
      (s.foldState ≠ .idle → s.pendingTrigger = true →
        exec (.reckonNow p []) s = .next (s.answer p 0xA2#8 { status := .ok, body := [2#8] })) ∧
      ∀ b rest, exec (.reckonNow p (b :: rest)) s =
        .next (s.answer p 0xA2#8 { status := .badArg, body := [] })) ∧
    (s.settings.holds p .report = false → s.settings.holds p .admin = false → ∀ payload,
      exec (.reckonNow p payload) s = .next (s.answer p 0xA2#8 { status := .denied, body := [] }))

/-- The swap exchanges the banks, closes the open interval, opens the next but not beyond the top of the range, restarts
the timer and makes FOLD wait; an idle engine with nothing waiting is granted to FOLD at once, and the fold begins with
the settings as they stand. An expiry of the RUNNING timer swaps in IDLE, and otherwise leaves the timer EXPIRED with the
pending trigger set (R29, R30, R33, R34, R35, R41, R42, R157). -/
def Obligations.SwapClosesTheInterval : Prop :=
  ∀ s : State,
    let opened : Interval := if s.openInterval = 4294967295#32 then 4294967295#32 else s.openInterval + 1
    let swapped : State :=
      { s with
        activeBank := match s.activeBank with | .a => .b | .b => .a
        foldState := .foldWait s.openInterval
        openInterval := opened
        timer := .running (s.settings.intervalLength.toNat * 120)
        arbiter := { s.arbiter with waiting := s.arbiter.waiting.set 0 true } }
    (s.engine ≠ .idle → s.swap = swapped) ∧
    (s.phase = .ready → s.engine = .idle → s.nothingWaits → s.swap =
      { swapped with
        foldState := .folding s.openInterval
        arbiter :=
          { high := if s.settings.tiers[0] = .high then .requester .fold else .low
            low := if s.settings.tiers[0] = .high then s.arbiter.low else .fold
            waiting := s.arbiter.waiting }
        engine := .fold
          { interval := s.openInterval
            snapshot :=
              { weights := s.settings.weights, modes := s.settings.modes, shifts := s.settings.shifts }
            stage := .step 0, credited := 0, rateOnly := 0, skipped := 0, newHits := 0
            moved := Vector.replicate 4 false, expired := Vector.replicate 4 false
            tally := DeferredTally.empty } }) ∧
    (∀ n, s.timer = .running n →
      (s.foldState = .idle → exec .intervalTimerExpiry s = .next s.swap) ∧
      (s.foldState ≠ .idle → exec .intervalTimerExpiry s = .next
        { s with pendingTrigger := true, timer := .expired }))

/-! ## Reckoning (chapters 3 and 4) -/

/-- MODE_SET is refused in the order role, arguments, binding; a taken one stores the mode and changes nothing else but
the reply, which carries the machine, the mode and the fold state (R56). -/
def Obligations.ModeSetStoresTheMode : Prop :=
  ∀ (s : State) (p : Port) (payload : List Byte), s.phase = .ready →
    let refused (st : Status) := exec (.modeSet p payload) s = .next (s.answer p 0xB0#8 { status := st, body := [] })
    (s.settings.holds p .admin = false → refused .denied) ∧
    (s.settings.holds p .admin = true →
      (modeArgs payload = none → refused .badArg) ∧
      ∀ m mode, modeArgs payload = some (m, mode) →
        (s.settings.binds p m = false → refused .denied) ∧
        (s.settings.binds p m = true → exec (.modeSet p payload) s = .next
          ({ s with settings := { s.settings with modes := s.settings.modes.set m mode } }.answer p 0xB0#8
            { status := .ok
              body := [BitVec.ofNat 8 m.val,
                match mode with | .checked => 0#8 | .unchecked => 1#8 | .discard => 2#8,
                match s.foldState with | .idle => 0#8 | .foldWait _ => 1#8 | .folding _ => 2#8] })))

/-- The element step of a fold: a VACANT record is passed over uncounted, a SUSPENDED record and an ACTIVE record of a
DISCARD machine are counted skipped; any other ACTIVE record gets the wear, residue, rate and due of stages 1 to 6, its
queue entry is placed and the fold's counts, marks and tally go on. In a CHECKED machine the new hits are set; a LIMIT new
hit with limit logged no appends a LIMIT_REACHED record with the interval folded, the generation and the credited wear;
each new hit is handed to attention. Nothing else changes (R43, R44, R45 to R55, R59, R72, R75, R76, R78, R79, R80). -/
def Obligations.ElementStepReckonsOneRecord : Prop :=
  ∀ (s : State) (run : FoldRun) (e : ElementIx), s.engine = .fold run → run.stage = .step e →
    let r := s.elements[e]
    let next : FoldStage := if h : e.val + 1 < 512 then .step ⟨e.val + 1, h⟩ else .store
    let bank := (s.bank s.activeBank.other)[r.machine]
    let zone := bank.zones[r.zone]
    let mode := run.snapshot.modes[r.machine]
    let num := numerator (rawFigure zone.cells run.snapshot.weights) bank.runTime r
    let credits := r.start ≤ run.interval
    let rate := smooth r.rate (num / 16) run.snapshot.shifts[r.machine]
    let wear := if credits then BitVec.ofNat 32 (min (r.wear.toNat + num / 16) 4294967295) else r.wear
    let due := project wear rate r.limit run.interval
    let residue : Fin 16 := if credits then ⟨num % 16, Nat.mod_lt _ (by decide)⟩ else r.residue
    let reckoned : Element := { r with wear := wear, residue := residue, rate := rate, due := due }
    let hits := if mode = .checked then newHits reckoned zone.clip bank.runClip else []
    let logged : State :=
      if .limit ∈ hits ∧ r.limitLogged = false then
        (s.appendHistory e
          { interval := run.interval, generation := r.generation, wear := wear, body := .limitReached }).1
      else s
    (r.state = .vacant → exec .elementStep s = .next { s with engine := .fold { run with stage := next } }) ∧
    (r.state = .suspended ∨ (r.state = .active ∧ mode = .discard) →
      exec .elementStep s = .next
        { s with engine := .fold { run with stage := next, skipped := run.skipped + 1 } }) ∧
    (r.state = .active → mode ≠ .discard →
      exec .elementStep s = .next
        { s with
          elements := s.elements.set e
            { reckoned with
              flags := setFlags r.flags hits
              limitLogged := r.limitLogged || hits.contains .limit
              head := logged.elements[e].head }
          pool := logged.pool
          queues := s.queues.set r.machine (s.queues[r.machine].place e due)
          attention := (handHits e r.machine hits logged).attention
          engine := .fold
            { run with
              stage := next
              credited := run.credited + (if credits then 1 else 0)
              rateOnly := run.rateOnly + (if credits then 0 else 1)
              newHits := run.newHits + hits.length
              moved := if due = r.due then run.moved else run.moved.set r.machine true
              tally := hits.foldl (fun acc f => acc.add r.machine e f.cause) run.tally } })

/-- The arithmetic of stages 1 to 4: the figures stay within their bounds, the numerator is sixteen increments and a
residue, a crediting step raises sixteen times wear plus residue by exactly the step's work unless the wear saturates,
and a rate-only step leaves both (R45, R46, R47, R48, R49). -/
def Obligations.WearIsCreditedExactly : Prop :=
  ∀ (r : Element) (zone : ZoneTally) (runTime : Half) (weights : Vector Byte 8) (shift : Fin 8) (i : Interval),
    let raw := rawFigure zone.cells weights
    let work := raw * r.duty.toNat + runTime.toNat * r.beltRate.toNat
    let inc := (work + r.residue.val) / 16
    let after := reckon r zone runTime weights shift i
    raw = zone.cells[0].toNat * weights[0].toNat + zone.cells[1].toNat * weights[1].toNat +
      zone.cells[2].toNat * weights[2].toNat + zone.cells[3].toNat * weights[3].toNat +
      zone.cells[4].toNat * weights[4].toNat + zone.cells[5].toNat * weights[5].toNat +
      zone.cells[6].toNat * weights[6].toNat + zone.cells[7].toNat * weights[7].toNat ∧
    raw ≤ 133691400 ∧
    (r.duty.toNat ≤ 64 → work + r.residue.val ≤ 8572961040 ∧ inc ≤ 535810065) ∧
    (r.start ≤ i → r.wear.toNat + inc ≤ 4294967295 →
      after.wear.toNat = r.wear.toNat + inc ∧
      16 * after.wear.toNat + after.residue.val = 16 * r.wear.toNat + r.residue.val + work) ∧
    (r.start ≤ i → 4294967295 < r.wear.toNat + inc →
      after.wear.toNat = 4294967295 ∧ after.residue.val = (work + r.residue.val) % 16) ∧
    (i < r.start → after.wear = r.wear ∧ after.residue = r.residue) ∧
    after.rate = smooth r.rate inc shift ∧ after.due = project after.wear after.rate r.limit i

/-- Stage 5 moves R toward the target by the difference divided by 2 to the shift, rounded toward minus infinity: up by
the rounded-down share, down by the rounded-up share, never past the target, and to the target itself with shift 0
(R50). -/
def Obligations.RateMovesTowardItsTarget : Prop :=
  ∀ (rate : Word) (inc : Nat) (shift : Fin 8),
    let target := if 4294967295 < inc * 256 then 4294967295 else inc * 256
    let after := (smooth rate inc shift).toNat
    (shift = 0 → after = target) ∧
    (rate.toNat ≤ target →
      after = rate.toNat + (target - rate.toNat) / 2 ^ shift.val ∧ after ≤ target) ∧
    (target < rate.toNat →
      after + (rate.toNat - target + (2 ^ shift.val - 1)) / 2 ^ shift.val = rate.toNat ∧
        target ≤ after ∧ after < rate.toNat)

/-- The projection takes its four cases in order; in the fourth the due is the base plus the rounded-up quotient, capped
at 65,535, and not above the top of the range; every due lies from the base to 65,535 above it (R52). -/
def Obligations.ProjectionTakesItsFourCases : Prop :=
  ∀ (wear rate limit : Word) (base : Interval),
    (limit = 0 → project wear rate limit base = none) ∧
    (limit ≠ 0 → rate = 0 → project wear rate limit base = none) ∧
    (limit ≠ 0 → rate ≠ 0 → limit ≤ wear → project wear rate limit base = some base) ∧
    (limit ≠ 0 → rate ≠ 0 → wear < limit → ∃ q : Nat, 1 ≤ q ∧
      (q - 1) * rate.toNat < (limit.toNat - wear.toNat) * 256 ∧
      (limit.toNat - wear.toNat) * 256 ≤ q * rate.toNat ∧
      ∃ d : Interval, project wear rate limit base = some d ∧
        d.toNat = min (base.toNat + min q 65535) 4294967295) ∧
    (∀ d : Interval, project wear rate limit base = some d →
      base ≤ d ∧ d.toNat ≤ base.toNat + 65535)

/-- A flag is a new hit exactly when it is clear and its condition holds on the stepped record and the closed bank's
markers; the step sets the flags of its new hits and clears none, and the two rate checks never both succeed on a window
that R6 admits; the new hits stand in check order; outside start-up each new hit is handed, under the cause that Table 4-1
gives its flag, to exactly the bound IMMEDIATE ports, in that order (R68 to R72, R78, R79). -/
def Obligations.ChecksMakeNewHits : Prop :=
  let cause : HitFlag → HitCause := fun f => match f with
    | .plan => .plan
    | .limit => .limit
    | .rateLow => .rate
    | .rateHigh => .rate
    | .clipped => .clip
  (∀ f : HitFlag, f.cause = cause f) ∧
  (∀ (r : Element) (zoneClip runClip : Bool),
    let holds : HitFlag → Prop := fun f => match f with
      | .plan => r.planAt ≠ 0 ∧ r.planAt ≤ r.wear
      | .limit => r.limit ≠ 0 ∧ r.limit ≤ r.wear
      | .rateLow => r.rateHigh ≠ 0 ∧ r.rate.toNat / 256 < r.rateLow.toNat
      | .rateHigh => r.rateHigh ≠ 0 ∧ r.rateHigh.toNat < r.rate.toNat / 256
      | .clipped => zoneClip = true ∨ (r.kind = .belt ∧ runClip = true)
    (∀ f : HitFlag, f ∈ newHits r zoneClip runClip ↔ hasFlag r.flags f = false ∧ holds f) ∧
    (∀ f : HitFlag, hasFlag (setFlags r.flags (newHits r zoneClip runClip)) f = true ↔
      hasFlag r.flags f = true ∨ holds f) ∧
    (newHits r zoneClip runClip).Nodup ∧
    (newHits r zoneClip runClip).Sublist [.plan, .limit, .rateLow, .rateHigh, .clipped] ∧
    (r.rateLow ≤ r.rateHigh → ¬ (holds .rateLow ∧ holds .rateHigh))) ∧
  (∀ (s : State) (e : ElementIx) (m : MachineId) (hits : List HitFlag) (q : Port), s.phase = .ready →
    (handHits e m hits s).attention[q] =
      if s.settings.binds q m = true ∧ s.settings.policies[q] = .immediate then
        hits.foldl (fun a f => a.hit (cause f) 1 (some e) s.settings.enables[q]) s.attention[q]
      else s.attention[q])

/-- The first stage of completion stores F, the reckoning summary and the window drops in one update and changes nothing
else but the fold's own record (R58, R59, R60, R103). -/
def Obligations.FoldCompletionStoresTheFold : Prop :=
  ∀ (s : State) (run : FoldRun), s.engine = .fold run → run.stage = .store →
    let closed := s.bank s.activeBank.other
    ∃ (windows : Vector (Vector (Option Window) 8) 4) (expired : Vector Bool 4) (markers : Nat),
      (∀ (m : MachineId) (w : WindowSlot), windows[m][w] =
        match s.windows[m][w] with
        | some v => if v.finish ≤ run.interval then none else some v
        | none => none) ∧
      (∀ m : MachineId, expired[m] = true ↔
        ∃ (w : WindowSlot) (v : Window), s.windows[m][w] = some v ∧ v.finish ≤ run.interval) ∧
      markers = ((List.finRange 4).map fun m =>
        ((List.finRange 16).filter fun z => closed[m].zones[z].clip).length +
          if closed[m].runClip then 1 else 0).sum ∧
      exec .foldCompletion s = .next
        { s with
          lastFolded := run.interval
          windows := windows
          summary :=
            { interval := run.interval, credited := run.credited, rateOnly := run.rateOnly, skipped := run.skipped
              newHits := run.newHits, saturatedCells := markers
              discarded := run.snapshot.modes.map fun mode => mode = .discard }
          engine := .fold { run with stage := .markStale, expired := expired } }

/-- The second stage turns STALE exactly the FRESH plans of the machines marked moved or expired, makes PLAN_STALE pending
at exactly the PLAN ports bound to one of them, and discards the marks (R61, R107). -/
def Obligations.MovedAndExpiredPlansGoStale : Prop :=
  ∀ (s : State) (run : FoldRun), s.phase = .ready → s.engine = .fold run → run.stage = .markStale →
    let turned (m : MachineId) : Prop := (run.moved[m] = true ∨ run.expired[m] = true) ∧ s.plans[m].state = .fresh
    ∃ t, exec .markPlansStale s = .next t ∧
      t = { s with plans := t.plans, attention := t.attention, engine := t.engine } ∧
      t.engine = .fold
        { run with
          stage := .handHits, moved := Vector.replicate 4 false, expired := Vector.replicate 4 false } ∧
      (∀ m : MachineId,
        (turned m → t.plans[m] = { s.plans[m] with state := .stale }) ∧
        (¬ turned m → t.plans[m] = s.plans[m])) ∧
      (∀ q : Port, t.attention[q].summaries = s.attention[q].summaries ∧
        ∀ c : Cause, hasCause t.attention[q].pending c = true ↔ hasCause s.attention[q].pending c = true ∨
          (c = .planStale ∧ ∃ m, turned m ∧ s.settings.holds q .plan = true ∧ s.settings.binds q m = true))

/-- The third stage hands the deferred tally and RECKONED to each port by its notify policy and discards the tally: an
IMMEDIATE port gets RECKONED; a DEFERRED port gets RECKONED, every hit cause with a count on a machine of its binding,
and the counts in its summaries, whose lowest index becomes the lower of the one held and the tally's; a SUMMARY port gets RECKONED when the fold hit a machine of its
binding; a NONE port gets nothing (R62, R79 to R82, R173). -/
def Obligations.DeferredHitsReachPortsByPolicy : Prop :=
  ∀ (s : State) (run : FoldRun), s.engine = .fold run → run.stage = .handHits →
    ∃ t, exec .handDeferredHits s = .next t ∧
      t = { s with attention := t.attention, engine := t.engine } ∧
      t.engine = .fold { run with stage := .clearBank, tally := DeferredTally.empty } ∧
      ∀ q : Port,
        let hit (c : HitCause) (m : MachineId) : Prop :=
          s.settings.binds q m = true ∧ 0 < run.tally.entries[m][c.ix].count
        let summed (c : HitCause) : Nat := ((List.finRange 4).map fun m =>
          if s.settings.binds q m then run.tally.entries[m][c.ix].count else 0).sum
        match s.settings.policies[q] with
        | .immediate => t.attention[q] = s.attention[q].raise .reckoned s.settings.enables[q]
        | .deferred =>
          (∀ c : Cause, hasCause t.attention[q].pending c = true ↔
            hasCause s.attention[q].pending c = true ∨ c = .reckoned ∨ ∃ h m, c = h.cause ∧ hit h m) ∧
          (∀ c : HitCause,
            (t.attention[q].summaries[c.ix].count.toNat = min (s.attention[q].summaries[c.ix].count.toNat + summed c) 65535) ∧
            (∀ e : ElementIx, t.attention[q].summaries[c.ix].lowest = some e →
              s.attention[q].summaries[c.ix].lowest = some e ∨
                ∃ m, hit c m ∧ run.tally.entries[m][c.ix].lowest = some e) ∧
            (∀ m e, hit c m → run.tally.entries[m][c.ix].lowest = some e →
              ∃ f, t.attention[q].summaries[c.ix].lowest = some f ∧ f ≤ e) ∧
            (∀ f : ElementIx, s.attention[q].summaries[c.ix].lowest = some f →
              ∃ g, t.attention[q].summaries[c.ix].lowest = some g ∧ g ≤ f))
        | .summary =>
          ((∃ m, run.tally.machines[m] = true ∧ s.settings.binds q m = true) →
            t.attention[q] = s.attention[q].raise .reckoned s.settings.enables[q]) ∧
          ((∀ m, run.tally.machines[m] = true → s.settings.binds q m = false) → t.attention[q] = s.attention[q])
        | .none => t.attention[q] = s.attention[q]

/-- The fourth stage clears the closed bank whole, whatever the modes, and the fold state becomes IDLE; a pending trigger
is consumed by a swap at once, which closes the open interval and makes FOLD wait (R28, R32). -/
def Obligations.ClosedBankIsCleared : Prop :=
  ∀ (s : State) (run : FoldRun), s.engine = .fold run → run.stage = .clearBank →
    let cleared : State :=
      { s with
        bankA := if s.activeBank = .a then s.bankA else Bank.zero
        bankB := if s.activeBank = .a then Bank.zero else s.bankB
        foldState := .idle
        pendingTrigger := false
        engine := .fold { run with stage := .release } }
    (s.pendingTrigger = false → exec .clearClosedBank s = .next cleared) ∧
    (s.pendingTrigger = true → exec .clearClosedBank s = .next
      { cleared with
        activeBank := match s.activeBank with | .a => .b | .b => .a
        foldState := .foldWait s.openInterval
        openInterval := nextInterval s.openInterval
        timer := .running (s.settings.intervalLength.toNat * 120)
        arbiter := { s.arbiter with waiting := s.arbiter.waiting.set 0 true } })

/-! ## The shared engine (chapter 8) -/

/-- The fifth stage releases the engine: it stays idle when nothing waits, and otherwise the requester that the arbiter
chooses leaves the waiting set and begins its operation: FOLD enters FOLDING, a slot enters RUNNING and a plan build takes
its snapshot of windows, queue and F (R31, R63, R109, R148, R156). -/
def Obligations.EngineIsReleasedAndGranted : Prop :=
  ∀ (s : State) (run : FoldRun), s.phase = .ready → s.engine = .fold run → run.stage = .release →
    (s.nothingWaits → exec .releaseEngine s = .next { s with engine := .idle }) ∧
    (∀ high low closed, s.arbiter.choose s.settings.tiers = some (.fold, high, low) → s.foldState = .foldWait closed →
      exec .releaseEngine s = .next
        { s with
          arbiter := { high := high, low := low, waiting := s.arbiter.waiting.set 0 false }
          foldState := .folding closed
          engine := .fold (FoldRun.begin closed s.settings) }) ∧
    (∀ p high low copy, s.arbiter.choose s.settings.tiers = some (.slot p, high, low) → s.slots[p] = .waiting copy →
      exec .releaseEngine s = .next
        { s with
          arbiter := { high := high, low := low, waiting := s.arbiter.waiting.set p.succ false }
          slots := s.slots.set p (.running copy)
          engine :=
            match copy.request with
            | .planBuild m => .build p
                { machine := m, windows := s.windows[m], queue := s.queues[m].entries, stamp := s.lastFolded
                  watch := false }
            | _ => .lookup p })

/-- The arbiter chooses a requester exactly when one waits, and the one it chooses waits. A HIGH requester is granted in
its own place and moves the high pointer to it; a LOW one is granted through LOW and moves both pointers. No eligible
place of the high rotation lies between the high pointer and the place taken, and no waiting LOW requester lies between
the low pointer and the one taken through LOW (R155, R156). -/
def Obligations.ArbiterFollowsTheRotations : Prop :=
  ∀ (a : Arbiter) (tiers : Vector Tier 5),
    let highNumber : HighPlace → Nat := fun x => match x with
      | .requester r => r.ix.val
      | .low => 5
    let lowNumber : Requester → Nat := fun r => match r with
      | .slot p => p.val
      | .fold => 4
    let waits (r : Requester) : Prop := a.waiting[r.ix] = true
    let eligible : HighPlace → Prop := fun x => match x with
      | .requester r => tiers[r.ix] = .high ∧ waits r
      | .low => ∃ r, tiers[r.ix] = .low ∧ waits r
    (a.choose tiers = none ↔ ∀ r, ¬ waits r) ∧
    (∀ r high low, a.choose tiers = some (r, high, low) →
      waits r ∧ eligible high ∧
      (tiers[r.ix] = .high → high = .requester r ∧ low = a.low) ∧
      (tiers[r.ix] = .low → high = .low ∧ low = r) ∧
      (∀ x, eligible x →
        (highNumber high + 5 - highNumber a.high) % 6 ≤ (highNumber x + 5 - highNumber a.high) % 6) ∧
      (high = .low → ∀ x, tiers[x.ix] = .low → waits x →
        (lowNumber r + 4 - lowNumber a.low) % 5 ≤ (lowNumber x + 4 - lowNumber a.low) % 5))

/-- The three long requests are refused in the order of their checks, no slot touched: PLAN_BUILD by role, argument and
binding, HISTORY_READ and ELEMENT_FIND by argument alone (R108, R140, R153). One that passes its checks and reaches an EMPTY
slot is taken: with the engine occupied the slot enters WAITING, with the engine idle and nothing waiting it is granted at
once and a plan build takes its snapshot. A repeat of the copy is answered PENDING in WAITING and RUNNING and collects the
result in READY, spelled as R115, R141, R154 and Table 9-6 give it; a different long request is answered BUSY and changes
nothing but the reply (R145, R146, R147, R150, R157). The widths of the counts in a result are log 12's reading of R170. -/
def Obligations.LongRequestsUseTheDeferredSlot : Prop :=
  (∀ (s : State) (p : Port) (payload : List Byte), s.phase = .ready →
    let refused (c : Instr) (kind : Byte) (st : Status) : Prop :=
      exec c s = .next (s.answer p kind { status := st, body := [] })
    (s.settings.holds p .plan = false → refused (.planBuild p payload) 0xC2#8 .denied) ∧
    (s.settings.holds p .plan = true →
      (planBuildArgs payload = none → refused (.planBuild p payload) 0xC2#8 .badArg) ∧
      ∀ m, planBuildArgs payload = some m → s.settings.binds p m = false →
        refused (.planBuild p payload) 0xC2#8 .denied) ∧
    (historyReadArgs payload = none → refused (.historyRead p payload) 0xD1#8 .badArg) ∧
    (findArgs payload = none → refused (.elementFind p payload) 0xD8#8 .badArg)) ∧
  (∀ (s : State) (p : Port) (payload : List Byte) (c : Instr) (req : LongRequest),
    s.phase = .ready → LongRequestPasses s p payload c req →
    let kind := req.kind.code
    let copy : RequestCopy := { request := req, payload := payload }
    let n16 (n : Nat) : List Byte := bytes16 (BitVec.ofNat 16 n)
    let recordBytes (h : HistoryRecord) : List Byte :=
      let common := bytes32 h.interval ++ [h.generation] ++ bytes32 h.wear
      match h.body with
      | .defined note => [0#8] ++ common ++ [note]
      | .replaced note => [1#8] ++ common ++ [note]
      | .inspected note => [2#8] ++ common ++ [note]
      | .corrected second note => [3#8] ++ common ++ bytes32 second ++ [note]
      | .limitReached => [4#8] ++ common
    let spelled (result : LongResult) : List Byte := match result with
      | .plan st placed unplaced beyond =>
        (match st with | .none => 0#8 | .fresh => 1#8 | .stale => 2#8) :: (n16 placed ++ n16 unplaced ++ n16 beyond)
      | .history st g records blocks skip page =>
        [match st with | .vacant => 0#8 | .active => 1#8 | .suspended => 2#8, g, BitVec.ofNat 8 records,
          BitVec.ofNat 8 blocks, BitVec.ofNat 8 skip.val, BitVec.ofNat 8 page.length] ++ page.flatMap recordBytes
      | .find indices more =>
        n16 indices.length ++ indices.flatMap (fun x => n16 x.val) ++ [if more then 1#8 else 0#8]
    (s.slots[p] = .empty → s.engine ≠ .idle →
      exec c s = .next
        ({ s with
            slots := s.slots.set p (.waiting copy)
            arbiter := { s.arbiter with waiting := s.arbiter.waiting.set p.succ true } }.answer p (kind + 0x80#8)
          { status := .pending, body := [1#8] })) ∧
    (s.slots[p] = .empty → s.engine = .idle → s.nothingWaits →
      exec c s = .next
        ({ s with
            slots := s.slots.set p (.running copy)
            arbiter :=
              { high := if s.settings.tiers[p.succ] = Tier.high then .requester (.slot p) else .low
                low := if s.settings.tiers[p.succ] = Tier.high then s.arbiter.low else .slot p
                waiting := s.arbiter.waiting }
            engine :=
              match req with
              | .planBuild m => .build p
                  { machine := m, windows := s.windows[m], queue := s.queues[m].entries, stamp := s.lastFolded
                    watch := false }
              | _ => .lookup p }.answer p (kind + 0x80#8)
          { status := .pending, body := [2#8] })) ∧
    (∀ held, s.slots[p] = .waiting held ∨ s.slots[p] = .running held →
      let code := if s.slots[p] = .waiting held then 1#8 else 2#8
      (held.request.kind = req.kind → held.payload = payload →
        exec c s = .next (s.answer p (kind + 0x80#8) { status := .pending, body := [code] })) ∧
      (held.request.kind ≠ req.kind ∨ held.payload ≠ payload →
        exec c s = .next (s.answer p (kind + 0x80#8)
          { status := .busy, body := [held.request.kind.code, code] }))) ∧
    (∀ held result n, s.slots[p] = .ready held result n →
      (held.request.kind = req.kind → held.payload = payload →
        exec c s = .next ({ s with slots := s.slots.set p .empty }.answer p (kind + 0x80#8)
          { status := .ok, body := spelled result })) ∧
      (held.request.kind ≠ req.kind ∨ held.payload ≠ payload →
        exec c s = .next (s.answer p (kind + 0x80#8)
          { status := .busy, body := [held.request.kind.code, 3#8] }))))

/-- HISTORY_READ_COMPLETION and ELEMENT_FIND_COMPLETION form their results from the state as it stands, the slot enters
READY with the port's discard time, RESULT is raised at its own port and the engine is released; an expiry of the discard
timer of a READY slot empties it and raises DISCARD at its own port (R141, R149, R151, R154). -/
def Obligations.LookupsCompleteAndResultsExpire : Prop :=
  ∀ (s : State) (p : Port),
    let time := match s.settings.discardTimes[p] with | .short => 1 | .long => 32
    let completed (copy : RequestCopy) (result : LongResult) : State :=
      (raiseAt (fun q => q = p) .result { s with slots := s.slots.set p (.ready copy result time) }).release
    (∀ copy e skip, s.engine = .lookup p → s.slots[p] = .running copy → copy.request = .historyRead e skip →
      let r := s.elements[e]
      let head := if r.state = .vacant then none else r.head
      let records := chainRecords s.pool head
      exec .historyReadCompletion s = .next (completed copy
        (.history r.state r.generation records.length (chainOf s.pool.alloc head).length skip
          ((records.drop skip.val).take 6)))) ∧
    (∀ copy selector flags start, s.engine = .lookup p → s.slots[p] = .running copy →
      copy.request = .elementFind selector flags start →
      ∃ found : List ElementIx,
        found.Pairwise (fun a b => a < b) ∧
        (∀ e : ElementIx, e ∈ found ↔
          s.elements[e].state ≠ .vacant ∧ (∀ m, selector = some m → s.elements[e].machine = m) ∧
          (∃ f : HitFlag, hasFlag s.elements[e].flags f = true ∧ hasFlag flags f = true) ∧
          (∀ i, start = some i → i < e)) ∧
        exec .elementFindCompletion s = .next (completed copy (.find (found.take 16) (decide (16 < found.length))))) ∧
    (∀ copy result n, s.slots[p] = .ready copy result n →
      exec (.discardTimerExpiry p) s = .next
        (raiseAt (fun q => q = p) .discard { s with slots := s.slots.set p .empty }))

/-! ## Due queues (chapter 5) -/

/-- QUEUE_READ and PLAN_READ need no role and no binding, change nothing but the reply, and return up to eight entries of
the queue or list as it stands from the position named; arguments out of range are answered BAD_ARG; during start-up both
are answered STARTING (R94, R119). The one-byte length of a plan list is log 12's reading of R170. -/
def Obligations.QueueAndPlanAreReadInPages : Prop :=
  ∀ (s : State) (p : Port) (payload : List Byte),
    let entriesOf (l : List QueueEntry) : List Byte :=
      l.flatMap fun x => bytes16 (BitVec.ofNat 16 x.index.val) ++ bytes32 x.due
    (s.phase = .starting →
      exec (.queueRead p payload) s = .next (s.answer p 0xB8#8 { status := .starting, body := [] }) ∧
      exec (.planRead p payload) s = .next (s.answer p 0xC3#8 { status := .starting, body := [] })) ∧
    (s.phase = .ready →
      (queueArgs payload = none →
        exec (.queueRead p payload) s = .next (s.answer p 0xB8#8 { status := .badArg, body := [] })) ∧
      (∀ m position, queueArgs payload = some (m, position) →
        let q := s.queues[m]
        let page := (q.entries.drop position.val).take 8
        page.length = min 8 (q.entries.length - position.val) ∧
        exec (.queueRead p payload) s = .next (s.answer p 0xB8#8
          { status := .ok
            body := BitVec.ofNat 8 m.val :: (bytes16 q.revision ++ bytes16 (BitVec.ofNat 16 q.entries.length) ++
              bytes16 (BitVec.ofNat 16 position.val) ++ [BitVec.ofNat 8 page.length] ++ entriesOf page) })) ∧
      (planReadArgs payload = none →
        exec (.planRead p payload) s = .next (s.answer p 0xC3#8 { status := .badArg, body := [] })) ∧
      (∀ m list position, planReadArgs payload = some (m, list, position) →
        let plan := s.plans[m]
        let entries := match list with
          | .window w => plan.windowLists[w]
          | .unplaced => plan.unplaced
        let page := (entries.drop position.val).take 8
        page.length = min 8 (entries.length - position.val) ∧
        exec (.planRead p payload) s = .next (s.answer p 0xC3#8
          { status := .ok
            body := (match plan.state with | .none => 0#8 | .fresh => 1#8 | .stale => 2#8) ::
              ((match plan.stamp with | none => [0#8, 0#8, 0#8, 0#8, 0#8] | some d => 1#8 :: bytes32 d) ++
                [BitVec.ofNat 8 entries.length, BitVec.ofNat 8 page.length] ++ entriesOf page) })))

/-- On a queue in order with one entry per index, a PLACE or REMOVE notice leaves a queue in order with one entry per
index, in which the notice's element stands at exactly the due named, and every other entry stays; the revision rises by
one modulo 65,536 exactly when the entries change (R85, R87, R88). -/
def Obligations.NoticesKeepTheQueueInOrder : Prop :=
  ∀ (q : DueQueue) (e : ElementIx), InDueOrder q.entries → (q.entries.map fun x => x.index).Nodup →
    let meets (after : DueQueue) (due : Option Interval) : Prop :=
      InDueOrder after.entries ∧ (after.entries.map fun x => x.index).Nodup ∧
      (∀ x : QueueEntry, x ∈ after.entries ↔ (x.index ≠ e ∧ x ∈ q.entries) ∨ (x.index = e ∧ due = some x.due)) ∧
      (after.entries = q.entries → after.revision = q.revision) ∧
      (after.entries ≠ q.entries → after.revision = q.revision + 1)
    (∀ due, meets (q.place e due) due) ∧ meets (q.remove e) none

/-! ## Windows and plans (chapter 6) -/

/-- WINDOW_SET and WINDOW_DROP are refused in the order of Table 6-2. A taken WINDOW_SET writes the slot whole with a
capacity of at most 32 and is a staleness event; a WINDOW_DROP of a HELD slot empties it and is a staleness event, of an
EMPTY slot it changes nothing but the reply (R100, R101, R102). -/
def Obligations.WindowsAreSetAndDropped : Prop :=
  ∀ (s : State) (p : Port) (payload : List Byte), s.phase = .ready →
    let setRefused (st : Status) :=
      exec (.windowSet p payload) s = .next (s.answer p 0xC0#8 { status := st, body := [] })
    let dropRefused (st : Status) :=
      exec (.windowDrop p payload) s = .next (s.answer p 0xC1#8 { status := st, body := [] })
    let code (t : State) (m : MachineId) : Byte :=
      match t.plans[m].state with | .none => 0#8 | .fresh => 1#8 | .stale => 2#8
    (s.settings.holds p .plan = false → setRefused .denied ∧ dropRefused .denied) ∧
    (s.settings.holds p .plan = true →
      (windowSetArgs payload = none → setRefused .badArg) ∧
      (windowDropArgs payload = none → dropRefused .badArg) ∧
      (∀ m w v, windowSetArgs payload = some (m, w, v) →
        (v.finish < s.openInterval → setRefused .badArg) ∧
        (s.openInterval ≤ v.finish → s.settings.binds p m = false → setRefused .denied) ∧
        (s.openInterval ≤ v.finish → s.settings.binds p m = true →
          let stored : Window := { v with capacity := if 32 < v.capacity.toNat then 32#8 else v.capacity }
          let t := staleEvent m { s with windows := s.windows.set m (s.windows[m].set w (some stored)) }
          exec (.windowSet p payload) s = .next (t.answer p 0xC0#8
            { status := if 32 < v.capacity.toNat then .clamped else .ok
              body := [BitVec.ofNat 8 m.val, BitVec.ofNat 8 w.val] ++ bytes32 stored.start ++ bytes32 stored.finish ++
                [stored.capacity, if s.windows[m][w] = none then 0#8 else 1#8, code t m] }))) ∧
      (∀ m w, windowDropArgs payload = some (m, w) →
        (s.settings.binds p m = false → dropRefused .denied) ∧
        (s.settings.binds p m = true → s.windows[m][w] = none →
          exec (.windowDrop p payload) s = .next (s.answer p 0xC1#8
            { status := .ok, body := [BitVec.ofNat 8 m.val, BitVec.ofNat 8 w.val, 0#8, code s m] })) ∧
        (s.settings.binds p m = true → s.windows[m][w] ≠ none →
          let t := staleEvent m { s with windows := s.windows.set m (s.windows[m].set w none) }
          exec (.windowDrop p payload) s = .next (t.answer p 0xC1#8
            { status := .ok, body := [BitVec.ofNat 8 m.val, BitVec.ofNat 8 w.val, 1#8, code t m] }))))

/-- A completed build replaces the machine's plan whole, FRESH or by its watch mark STALE with PLAN_STALE raised, gives
its slot the state and the three totals, raises RESULT at the slot's own port, starts the discard timer and releases the
engine (R107, R114, R115, R149). -/
def Obligations.PlanBuildInstallsItsPlan : Prop :=
  ∀ (s : State) (p : Port) (run : BuildRun) (copy : RequestCopy),
    s.engine = .build p run → s.slots[p] = .running copy →
    let placed := placeAll run.windows run.queue
    let st : PlanState := if run.watch then .stale else .fresh
    let plan : Plan :=
      { state := st, stamp := some run.stamp, windowLists := placed.lists, unplaced := placed.unplaced
        overflow := placed.overflow, beyond := placed.beyond }
    let installed : State := { s with plans := s.plans.set run.machine plan }
    let told : State :=
      if run.watch then
        raiseAt (fun q => s.settings.holds q .plan && s.settings.binds q run.machine) .planStale installed
      else installed
    exec .planBuildCompletion s = .next
      (raiseAt (fun q => q = p) .result
        { told with
          slots := s.slots.set p (.ready copy
            (.plan st (placedTotal placed.lists) (placed.unplaced.length + placed.overflow) placed.beyond)
            (match s.settings.discardTimes[p] with | .short => 1 | .long => 32)) }).release

/-- The horizon is the greatest end of the HELD windows, and there is one exactly when a slot is HELD; the beyond count is the number of entries past it, or of all
entries without a HELD window; every snapshot entry ends in exactly one place, so the placed total, the unplaced total and
the beyond count add up to the length of the queue snapshot (R111). -/
def Obligations.PlacementAccountsForEveryEntry : Prop :=
  ∀ (windows : Vector (Option Window) 8) (queue : List QueueEntry),
    let placed := placeAll windows queue
    ((∀ w : WindowSlot, windows[w] = none) →
      horizon windows = none ∧ placed.beyond = queue.length ∧ (∀ w : WindowSlot, placed.lists[w] = []) ∧
        placed.unplaced = [] ∧ placed.overflow = 0) ∧
    (horizon windows = none → ∀ w : WindowSlot, windows[w] = none) ∧
    (∀ h, horizon windows = some h →
      (∃ (w : WindowSlot) (v : Window), windows[w] = some v ∧ v.finish = h) ∧
      (∀ (w : WindowSlot) (v : Window), windows[w] = some v → v.finish ≤ h) ∧
      placed.beyond = (queue.filter fun x => h < x.due).length) ∧
    placedTotal placed.lists + (placed.unplaced.length + placed.overflow) + placed.beyond = queue.length

/-- No window list holds more entries than its window's capacity, an entry stands only in a window that ends by its due,
each list keeps the order of the queue snapshot, an EMPTY slot's list is empty, the unplaced list holds at most 32 entries
and the overflow counts only beyond a full list. The walk starts with empty lists and takes the entries in queue order:
one whose due is past every HELD end counts beyond; another is appended to the list of the candidate of greatest end, the
lower slot among equal ends, and there is such a slot whenever there is a candidate; one without a candidate is appended to
the unplaced list, or counted in the overflow when that holds 32 (R104, R111, R112, R113). -/
def Obligations.PlacementRespectsTheWindows : Prop :=
  ∀ (windows : Vector (Option Window) 8) (queue : List QueueEntry),
    let placed := placeAll windows queue
    (∀ w : WindowSlot, windows[w] = none → placed.lists[w] = []) ∧
    (∀ (w : WindowSlot) (v : Window), windows[w] = some v →
      placed.lists[w].length ≤ v.capacity.toNat ∧ (∀ x ∈ placed.lists[w], v.finish ≤ x.due) ∧
      placed.lists[w].Sublist queue) ∧
    placed.unplaced.Sublist queue ∧ placed.unplaced.length ≤ 32 ∧
    (0 < placed.overflow → placed.unplaced.length = 32) ∧
    (∀ (lists : Vector (List QueueEntry) 8) (d : Interval),
      let candidate (x : WindowSlot) (v : Window) : Prop :=
        windows[x] = some v ∧ v.finish ≤ d ∧ lists[x].length < v.capacity.toNat
      (∀ w, bestCandidate windows lists d = some w →
        ∃ v, candidate w v ∧ ∀ x u, candidate x u → u.finish ≤ v.finish ∧ (u.finish = v.finish → w ≤ x)) ∧
      ((∃ x v, candidate x v) → ∃ w, bestCandidate windows lists d = some w)) ∧
    placeAll windows [] = { lists := Vector.replicate 8 [], unplaced := [], overflow := 0, beyond := 0 } ∧
    (∀ x : QueueEntry,
      let next := placeAll windows (queue ++ [x])
      let past : Prop := ∀ (w : WindowSlot) (v : Window), windows[w] = some v → v.finish < x.due
      (past → next = { placed with beyond := placed.beyond + 1 }) ∧
      (¬ past →
        (∀ w, bestCandidate windows placed.lists x.due = some w →
          next = { placed with lists := placed.lists.set w (placed.lists[w] ++ [x]) }) ∧
        (bestCandidate windows placed.lists x.due = none →
          (placed.unplaced.length < 32 → next = { placed with unplaced := placed.unplaced ++ [x] }) ∧
          (placed.unplaced.length = 32 → next = { placed with overflow := placed.overflow + 1 }))))

/-! ## Service posts and history (chapter 7) -/

/-- The three forms of SERVICE_POST: each hands its history record to the pool, with the interval, generation, wear and
note that Table 7-7 gives; a replacement begins a new generation with no wear, no flags and the kept rate; a correction
sets the wear; both project the due with base F, place an ACTIVE element and are staleness events; an inspection does
nothing more; the reply carries the record as it then stands and STORED or DROPPED (R124 to R128). -/
def Obligations.ServicePostsTakeTheirForms : Prop :=
  ∀ (s : State) (p : Port) (payload : List Byte) (form : PostForm) (a : PostArgs),
    s.mayModify p .service a.index a.generation → postArgs form payload = some a →
    let e := a.index
    let r := s.elements[e]
    let h : HistoryRecord :=
      match form with
      | .replacement =>
        { interval := s.openInterval, generation := r.generation + 1, wear := r.wear, body := .replaced a.note }
      | .inspection =>
        { interval := s.openInterval, generation := r.generation, wear := r.wear, body := .inspected a.note }
      | .correction =>
        { interval := s.openInterval, generation := r.generation, wear := r.wear
          body := .corrected a.corrected a.note }
    let t := (s.appendHistory e h).1
    let dropped : Byte := if (s.appendHistory e h).2 then 0#8 else 1#8
    let reply (g : Generation) (wear : Word) (due : Option Interval) : Answer :=
      { status := .ok
        body := bytes16 (BitVec.ofNat 16 e.val) ++ [g] ++ bytes32 wear ++ dueBytes due ++ [dropped] }
    let written (x : Element) : State :=
      staleEvent r.machine
        { t with
          elements := s.elements.set e { x with head := t.elements[e].head }
          queues :=
            if r.state = .active then s.queues.set r.machine (s.queues[r.machine].place e x.due) else s.queues }
    match form with
    | .replacement =>
      let due := project 0 r.rate r.limit s.lastFolded
      exec (.servicePostReplaced p payload) s = .next
        ((written { r with
            generation := r.generation + 1, wear := 0, residue := 0, flags := 0, limitLogged := false
            start := s.openInterval, due := due }).answer p 0xD0#8 (reply (r.generation + 1) 0 due))
    | .inspection =>
      t.elements = s.elements.set e { r with head := t.elements[e].head } ∧
      exec (.servicePostInspected p payload) s = .next (t.answer p 0xD0#8 (reply r.generation r.wear r.due))
    | .correction =>
      let due := project a.corrected r.rate r.limit s.lastFolded
      exec (.servicePostCorrected p payload) s = .next
        ((written { r with wear := a.corrected, residue := 0, due := due }).answer p 0xD0#8
          (reply r.generation a.corrected due))

/-- On a store that meets R131, an append to an element's chain keeps the records of that chain oldest first with the new
one at the end, losing exactly the six oldest when it recycles, keeps every other element's records, and is dropped, with
HISTORY_LOST at the ports bound to the machine, exactly when no block is FREE and the chain is empty or one full block
(R133 to R137). -/
def Obligations.AppendsKeepTheNewestRecords : Prop :=
  ∀ (s : State) (e : ElementIx) (h : HistoryRecord), s.phase = .ready →
    ChainsMeetR131 s.elements s.pool.alloc → s.elements[e].state ≠ .vacant →
    let chain := chainOf s.pool.alloc s.elements[e].head
    let records (t : State) (f : ElementIx) := chainRecords t.pool t.elements[f].head
    let noFree : Prop := ∀ b : BlockIx, s.pool.alloc[b] ≠ .free
    let full : Prop := (records s e).length = 6 * chain.length
    let t := (s.appendHistory e h).1
    ChainsMeetR131 t.elements t.pool.alloc ∧
    (∀ f : ElementIx, f ≠ e → records t f = records s f) ∧
    ((s.appendHistory e h).2 = false ↔ noFree ∧ full ∧ chain.length ≤ 1) ∧
    (noFree ∧ full ∧ chain.length ≤ 1 →
      t = raiseAt (fun q => s.settings.binds q s.elements[e].machine) .historyLost s) ∧
    (¬ (noFree ∧ full ∧ chain.length ≤ 1) →
      (full ∧ (chain.length = 4 ∨ noFree) → records t e = (records s e).drop 6 ++ [h]) ∧
      (¬ (full ∧ (chain.length = 4 ∨ noFree)) → records t e = records s e ++ [h]) ∧
      t = { s with elements := t.elements, pool := t.pool })

/-! ## Station ports (chapter 9) -/

/-- A failed frame is answered FRAME_ERROR with its reason and an unlisted kind UNKNOWN with the KIND received, in and out
of start-up, with nothing else changed; SEL high discards a partial frame, keeps the reply and leaves SDO at high
impedance; a prepared reply becomes the frame that is sent, with its CHECK (R161 to R166). The model's choice: the row
UNKNOWN answers so for a catalogued KIND too, which no frame brings to it (log 21); replies to failed and unknown frames
pass through PREPARING (log 20). -/
def Obligations.LinkRowsActOnTheirPort : Prop :=
  ∀ (s : State) (p : Port),
    let replied (kind : Byte) (payload : List Byte) : State :=
      { s with
        links := s.links.set p
          { s.links[p] with rx := Receiver.hunt, tx := Transmitter.preparing { kind := kind, payload := payload } } }
    (∀ reason, exec (.frameError p reason) s = .next (replied 0xFF#8
      [0x0B#8, match reason with | .length => 1#8 | .endMark => 2#8 | .check => 3#8])) ∧
    (∀ kind, exec (.unknown p kind) s = .next (replied 0xFF#8 [0x0C#8, kind])) ∧
    exec (.selHigh p) s = .next
      { s with links := s.links.set p { s.links[p] with sel := SelLevel.high, sdo := none, rx := Receiver.hunt } } ∧
    (∀ reply, s.links[p].tx = .preparing reply →
      ∃ check : Byte,
        reply.payload.foldl (· + ·) (reply.kind + BitVec.ofNat 8 reply.payload.length) + check = 0 ∧
        exec (.replyReady p) s = .next
          { s with
            links := s.links.set p
              { s.links[p] with
                tx := Transmitter.sending
                  ([0xD2#8, reply.kind, BitVec.ofNat 8 reply.payload.length] ++ reply.payload ++ [check, 0x2D#8]) 0 } })

/-- PORT_RESET empties its port's slot, withdraws a WAITING slot with both pointers unchanged, cancels a RUNNING
operation and releases the engine, clears its port's pending set and summaries and releases its line, keeps every setting,
and answers OK with the slot state found; a payload makes it BAD_ARG (R152, R168, R177). -/
def Obligations.PortResetCleansItsPort : Prop :=
  ∀ (s : State) (p : Port), s.phase = .ready →
    let emptied : State :=
      { s with
        slots := s.slots.set p .empty
        arbiter := { s.arbiter with waiting := s.arbiter.waiting.set p.succ false } }
    let cleared (t : State) : State :=
      { t with
        attention := t.attention.set p
          { pending := 0, summaries := Vector.replicate 4 { count := 0, lowest := none }, line := false } }
    let found : Byte := match s.slots[p] with
      | .empty => 0#8
      | .waiting _ => 1#8
      | .running _ => 2#8
      | .ready _ _ _ => 3#8
    (s.engine.occupant ≠ some (.slot p) →
      exec (.portReset p []) s = .next ((cleared emptied).answer p 0xE0#8 { status := .ok, body := [found] })) ∧
    (s.engine.occupant = some (.slot p) →
      exec (.portReset p []) s = .next ((cleared ({ emptied with engine := .idle }.grant)).answer p 0xE0#8
        { status := .ok, body := [found] })) ∧
    (∀ b rest, exec (.portReset p (b :: rest)) s =
      .next (s.answer p 0xE0#8 { status := .badArg, body := [] }))

/-- One byte on a link: it clocks out the next byte of a reply being sent, or the fill byte; a received byte that ends no
frame changes nothing but its own port's link; a byte that fails a frame is answered FRAME_ERROR; a byte that completes a
frame is the request of that frame, or UNKNOWN, taken at that moment (R159 to R164). The model's choice (log 16): a byte
leaves SEL low, and SDO is the last byte clocked out. -/
def Obligations.LinkByteMovesOneByteEachWay : Prop :=
  ∀ (s : State) (p : Port) (b : Byte),
    let l := s.links[p]
    ∃ moved : State,
      moved = { s with links := s.links.set p moved.links[p] } ∧ moved.links[p].sel = .low ∧
      (∀ frame next x, l.tx = .sending frame next → frame[next]? = some x →
        moved.links[p].sdo = some x ∧
        (next + 1 < frame.length → moved.links[p].tx = .sending frame (next + 1)) ∧
        (next + 1 = frame.length → moved.links[p].tx = .fill)) ∧
      ((∀ frame next, l.tx ≠ .sending frame next) →
        moved.links[p].sdo = some 0xFF#8 ∧ moved.links[p].tx = l.tx) ∧
      (∀ rx, l.rx.take b = (rx, .nothing) → moved.links[p].rx = rx ∧ exec (.linkByte p b) s = .next moved) ∧
      (∀ rx reason, l.rx.take b = (rx, .failed reason) →
        exec (.linkByte p b) s = exec (.frameError p reason) moved) ∧
      (∀ rx kind payload, l.rx.take b = (rx, .complete kind payload) →
        (∀ k, requestKindOf kind = some k → exec (.linkByte p b) s = exec (requestOfFrame p payload k) moved) ∧
        (requestKindOf kind = none → exec (.linkByte p b) s = exec (.unknown p kind) moved))

/-- A receiver in HUNT that takes the bytes of a frame with a payload of at most 56 bytes reports nothing until its last
byte and then exactly that kind and payload, and is in HUNT; with a wrong END byte, or a right one and a wrong CHECK, the
last byte reports END or CHECK; a length above 56 is reported at the length byte (R160, R161, R163). -/
def Obligations.FramesAreReceivedAsSent : Prop :=
  let feed (rx : Receiver) (l : List Byte) : Receiver × List FrameEvent :=
    l.foldl (fun acc b => ((acc.1.take b).1, acc.2 ++ [(acc.1.take b).2])) (rx, [])
  ∀ (kind : Byte) (payload : List Byte),
    (payload.length ≤ 56 →
      feed .hunt (frameBytes kind payload) =
        (.hunt, List.replicate (payload.length + 4) .nothing ++ [.complete kind payload]) ∧
      (∀ check mark : Byte, mark ≠ 0x2D#8 →
        feed .hunt ([0xD2#8, kind, BitVec.ofNat 8 payload.length] ++ payload ++ [check, mark]) =
          (.hunt, List.replicate (payload.length + 4) .nothing ++ [.failed .endMark])) ∧
      (∀ check : Byte, kind + BitVec.ofNat 8 payload.length + payload.foldl (· + ·) 0 + check ≠ 0 →
        feed .hunt ([0xD2#8, kind, BitVec.ofNat 8 payload.length] ++ payload ++ [check, 0x2D#8]) =
          (.hunt, List.replicate (payload.length + 4) .nothing ++ [.failed .check]))) ∧
    (∀ len : Byte, 56 < len.toNat →
      feed .hunt [0xD2#8, kind, len] = (.hunt, [.nothing, .nothing, .failed .length]))

/-- For every request that carries arguments, SETTINGS_READ and SETTINGS_WRITE apart: a payload is read as some values
exactly when those values spell it and lie in their ranges, so reading and spelling are inverse (R170). The model's
reading: a SERVICE_POST with another presence byte than 0 or 1, or of another form than its row, spells no values (log 11,
log 2). -/
def Obligations.RequestPayloadsReadBack : Prop :=
  (∀ (payload : List Byte) (a : DefineArgs), defineArgs payload = some a ↔
    payload = a.bytes ∧ (a.rateHigh = 0 ∨ a.rateLow ≤ a.rateHigh)) ∧
  (∀ (payload : List Byte) (e : ElementIx) (g : Generation), tenancyArgs payload = some (e, g) ↔
    payload = tenancyBytes e g) ∧
  (∀ (payload : List Byte) (e : ElementIx), elementReadArgs payload = some e ↔
    payload = bytes16 (BitVec.ofNat 16 e.val)) ∧
  (∀ (payload : List Byte) (e : ElementIx) (g : Generation) (v : LimitValues), limitsArgs payload = some (e, g, v) ↔
    payload = limitsBytes e g v ∧ (v.rateHigh = 0 ∨ v.rateLow ≤ v.rateHigh)) ∧
  (∀ (payload : List Byte) (e : ElementIx) (g : Generation) (f : FlagSet), ackArgs payload = some (e, g, f) ↔
    payload = ackBytes e g f) ∧
  (∀ (payload : List Byte) (m : MachineId) (l : List PassEntry), passArgs payload = some (m, l) ↔
    payload = passBytes m l ∧ 1 ≤ l.length ∧ l.length ≤ 8 ∧ ∀ n ∈ l, n.count ≠ 0) ∧
  (∀ (payload : List Byte) (m : MachineId) (w : WindowSlot) (v : Window), windowSetArgs payload = some (m, w, v) ↔
    payload = windowSetBytes m w v ∧ v.start ≤ v.finish ∧ v.capacity ≠ 0) ∧
  (∀ (form : PostForm) (payload : List Byte) (a : PostArgs), postArgs form payload = some a ↔
    payload = postBytes form a) ∧
  (∀ (payload : List Byte) (m : MachineId) (seconds : Byte), runArgs payload = some (m, seconds) ↔
    payload = [BitVec.ofNat 8 m.val, seconds] ∧ seconds ≠ 0) ∧
  (∀ (payload : List Byte) (m : MachineId) (mode : Mode), modeArgs payload = some (m, mode) ↔
    payload = [BitVec.ofNat 8 m.val, match mode with | .checked => 0#8 | .unchecked => 1#8 | .discard => 2#8]) ∧
  (∀ (payload : List Byte) (m : MachineId) (position : Fin 512), queueArgs payload = some (m, position) ↔
    payload = BitVec.ofNat 8 m.val :: bytes16 (BitVec.ofNat 16 position.val)) ∧
  (∀ (payload : List Byte) (m : MachineId) (w : WindowSlot), windowDropArgs payload = some (m, w) ↔
    payload = [BitVec.ofNat 8 m.val, BitVec.ofNat 8 w.val]) ∧
  (∀ (payload : List Byte) (m : MachineId), planBuildArgs payload = some m ↔ payload = [BitVec.ofNat 8 m.val]) ∧
  (∀ (payload : List Byte) (m : MachineId) (list : PlanList) (position : Fin 32),
    planReadArgs payload = some (m, list, position) ↔
      payload = [BitVec.ofNat 8 m.val, match list with | .window w => BitVec.ofNat 8 w.val | .unplaced => 8#8,
        BitVec.ofNat 8 position.val]) ∧
  (∀ (payload : List Byte) (e : ElementIx) (skip : Fin 24), historyReadArgs payload = some (e, skip) ↔
    payload = bytes16 (BitVec.ofNat 16 e.val) ++ [BitVec.ofNat 8 skip.val]) ∧
  (∀ (payload : List Byte) (selector : Option MachineId) (flags : FlagSet) (start : Option ElementIx),
    findArgs payload = some (.elementFind selector flags start) ↔
      flags ≠ 0 ∧
        payload = [match selector with | none => 4#8 | some m => BitVec.ofNat 8 m.val, flags.setWidth 8] ++
          bytes16 (match start with | none => 0xFFFF#16 | some e => BitVec.ofNat 16 e.val)) ∧
  (∀ (payload : List Byte) (named : CauseSet), causeArgs payload = some named ↔
    payload = bytes16 (named.setWidth 16))

/-- A request, a byte or a link event of one port that does not begin start-up leaves the link of every other port as it
was (R159; chapter 9: a frame on one port has no effect on the receive or transmit state of another). -/
def Obligations.OtherPortsLinksAreUntouched : Prop :=
  ∀ (s t : State) (c : Instr) (p q : Port), exec c s = .next t → q ≠ p → t.phase = s.phase →
    ((∃ k payload, c = requestOfFrame p payload k) ∨ (∃ b, c = .linkByte p b) ∨ (∃ reason, c = .frameError p reason) ∨
      (∃ kind, c = .unknown p kind) ∨ c = .selHigh p ∨ c = .replyReady p ∨ c = .discardTimerExpiry p) →
    t.links[q] = s.links[q]

/-! ## Attention (chapter 10) -/

/-- The three attention requests act on their own port's record alone, with no role and no binding: ATTN_READ returns the
sets, the line and the pending causes in priority order with their summaries; ATTN_CLEAR removes the named causes and
clears the named summaries; ATTN_ENABLE replaces the enable set; the line follows the sets; a payload of another length,
or a set with a bit above bit 10, is answered BAD_ARG (R162, R171, R174, R175, R176). -/
def Obligations.AttentionRequestsActOnTheirPort : Prop :=
  ∀ (s : State) (p : Port), s.phase = .ready →
    let a := s.attention[p]
    let setBytes (x : CauseSet) : List Byte := bytes16 (x.setWidth 16)
    let summaryBytes (c : HitCause) : List Byte := bytes16 a.summaries[c.ix].count ++
      match a.summaries[c.ix].lowest with
      | none => [0#8, 0#8, 0#8]
      | some e => 1#8 :: bytes16 (BitVec.ofNat 16 e.val)
    let listed : List Cause := [Cause.supply, .started, .limit, .plan, .rate, .clip, .result, .discard, .historyLost,
      .planStale, .reckoned].filter fun c => hasCause a.pending c
    exec (.attnRead p []) s = .next (s.answer p 0xE8#8
      { status := .ok
        body := setBytes a.pending ++ setBytes s.settings.enables[p] ++
          [if a.line then 1#8 else 0#8, BitVec.ofNat 8 listed.length] ++
          listed.flatMap fun c => BitVec.ofNat 8 c.code ::
            match c with
            | .limit => summaryBytes .limit
            | .plan => summaryBytes .plan
            | .rate => summaryBytes .rate
            | .clip => summaryBytes .clip
            | _ => [] }) ∧
    (∀ payload named, causeArgs payload = some named →
      (∃ cleared : PortAttention,
        (∀ c : Cause, hasCause cleared.pending c = (hasCause a.pending c && !hasCause named c)) ∧
        (∀ h : HitCause, cleared.summaries[h.ix] =
          if hasCause named h.cause then { count := 0, lowest := none } else a.summaries[h.ix]) ∧
        (cleared.line = true ↔
          ∃ c, hasCause cleared.pending c = true ∧ hasCause s.settings.enables[p] c = true) ∧
        exec (.attnClear p payload) s = .next
          ({ s with attention := s.attention.set p cleared }.answer p 0xE9#8
            { status := .ok
              body := ([HitCause.limit, .plan, .rate, .clip].filter fun h : HitCause =>
                  hasCause named h.cause && hasCause a.pending h.cause).flatMap summaryBytes ++
                setBytes cleared.pending })) ∧
      (∃ line : Bool,
        (line = true ↔ ∃ c, hasCause a.pending c = true ∧ hasCause named c = true) ∧
        exec (.attnEnable p payload) s = .next
          ({ s with
              settings := { s.settings with enables := s.settings.enables.set p named }
              attention := s.attention.set p { a with line := line } }.answer p 0xEA#8
            { status := .ok
              body := setBytes named ++ setBytes a.pending ++ [if line then 1#8 else 0#8] }))) ∧
    (∀ c1 c0 : Byte, 2048 ≤ (be16 c1 c0).toNat →
      exec (.attnClear p [c1, c0]) s = .next (s.answer p 0xE9#8 { status := .badArg, body := [] }) ∧
      exec (.attnEnable p [c1, c0]) s = .next (s.answer p 0xEA#8 { status := .badArg, body := [] })) ∧
    (∀ b rest, exec (.attnRead p (b :: rest)) s = .next (s.answer p 0xE8#8 { status := .badArg, body := [] })) ∧
    (∀ payload, payload.length ≠ 2 →
      exec (.attnClear p payload) s = .next (s.answer p 0xE9#8 { status := .badArg, body := [] }) ∧
      exec (.attnEnable p payload) s = .next (s.answer p 0xEA#8 { status := .badArg, body := [] }))

/-- Outside start-up a raise makes its cause pending at exactly the ports it is for and changes no summary; a hit also
adds to the summary of its cause, with the count saturating at 65,535 and the lower of the two lowest indices kept; the
line follows the sets; during start-up no raise is taken. A
staleness event turns a FRESH plan of its machine STALE and makes PLAN_STALE pending at exactly the PLAN ports bound to
it; in every plan state it sets the watch mark of a running build of that machine and of no other; it changes nothing
else (R106, R107, R110, R171, R172, R173, R177). -/
def Obligations.RaisesAndStalenessReachTheirPorts : Prop :=
  (∀ (s : State) (for_ : Port → Bool) (q : Port), LinesFollowSets s →
    (∀ c : Cause,
      LinesFollowSets (raiseAt for_ c s) ∧
      (s.phase = .starting → raiseAt for_ c s = s) ∧
      (s.phase = .ready → for_ q = false → (raiseAt for_ c s).attention[q] = s.attention[q]) ∧
      (s.phase = .ready → for_ q = true →
        (raiseAt for_ c s).attention[q].summaries = s.attention[q].summaries ∧
        ∀ x : Cause, hasCause (raiseAt for_ c s).attention[q].pending x = true ↔
          hasCause s.attention[q].pending x = true ∨ x = c)) ∧
    (∀ (h : HitCause) (n : Nat) (e : ElementIx),
      LinesFollowSets (hitAt for_ h n (some e) s) ∧
      (s.phase = .starting → hitAt for_ h n (some e) s = s) ∧
      (s.phase = .ready → for_ q = false → (hitAt for_ h n (some e) s).attention[q] = s.attention[q]) ∧
      (s.phase = .ready → for_ q = true →
        let after := (hitAt for_ h n (some e) s).attention[q]
        (∀ x : Cause, hasCause after.pending x = true ↔ hasCause s.attention[q].pending x = true ∨ x = h.cause) ∧
        (∀ g : HitCause, g ≠ h → after.summaries[g.ix] = s.attention[q].summaries[g.ix]) ∧
        after.summaries[h.ix].count.toNat = min (s.attention[q].summaries[h.ix].count.toNat + n) 65535 ∧
        (s.attention[q].summaries[h.ix].lowest = none → after.summaries[h.ix].lowest = some e) ∧
        (∀ f, s.attention[q].summaries[h.ix].lowest = some f →
          after.summaries[h.ix].lowest = some (if f < e then f else e))))) ∧
  (∀ (s : State) (m : MachineId), s.phase = .ready →
    ∃ t, staleEvent m s = t ∧
      t = { s with engine := t.engine, plans := t.plans, attention := t.attention } ∧
      (∀ p run, s.engine = .build p run → run.machine = m → t.engine = .build p { run with watch := true }) ∧
      ((∀ p run, s.engine = .build p run → run.machine ≠ m) → t.engine = s.engine) ∧
      (s.plans[m].state = .fresh → t.plans = s.plans.set m { s.plans[m] with state := .stale }) ∧
      (s.plans[m].state ≠ .fresh → t.plans = s.plans ∧ t.attention = s.attention) ∧
      (∀ q : Port, t.attention[q].summaries = s.attention[q].summaries ∧
        ∀ c : Cause, hasCause t.attention[q].pending c = true ↔ hasCause s.attention[q].pending c = true ∨
          (c = .planStale ∧ s.plans[m].state = .fresh ∧ s.settings.holds q .plan = true ∧
            s.settings.binds q m = true)))

/-! ## Settings, start-up and supply (chapter 11) -/

/-- SETTINGS_READ needs no role and no binding and changes nothing but the reply: it returns the item, the index and the
value stored, machine modes included, and BAD_ARG for a code outside Table 11-2, an index out of its range or a payload of
another length (R162, R180). -/
def Obligations.SettingsReadReturnsTheStoredValue : Prop :=
  ∀ (s : State) (p : Port) (code index : Byte), s.phase = .ready →
    let st := s.settings
    let reply (v : Nat) : State := s.answer p 0xF1#8
      { status := .ok, body := [code, index, BitVec.ofNat 8 (v / 256), BitVec.ofNat 8 v] }
    let given (v : Nat) : Prop := exec (.settingsRead p [code, index]) s = .next (reply v)
    let refused : Prop := exec (.settingsRead p [code, index]) s = .next
      (s.answer p 0xF1#8 { status := .badArg, body := [] })
    (code = 1 → (index = 0 → given st.intervalLength.toNat) ∧ (index ≠ 0 → refused)) ∧
    (code = 2 → (∀ c : ItemClass, index.toNat = c.val → given st.weights[c].toNat) ∧ (8 ≤ index.toNat → refused)) ∧
    ((code = 3 ∨ code = 4 ∨ code = 5 ∨ code = 6 ∨ code = 7 ∨ code = 8 ∨ code = 9) → 4 ≤ index.toNat → refused) ∧
    (∀ i : Fin 4, index.toNat = i.val →
      (code = 3 → given st.shifts[i].val) ∧
      (code = 4 → given (match st.modes[i] with | .checked => 0 | .unchecked => 1 | .discard => 2)) ∧
      (code = 5 → given st.roles[i].toNat) ∧ (code = 6 → given st.bindings[i].toNat) ∧
      (code = 7 → given (match st.policies[i] with
        | .immediate => 0 | .deferred => 1 | .summary => 2 | .none => 3)) ∧
      (code = 8 → given st.enables[i].toNat) ∧
      (code = 9 → given (match st.discardTimes[i] with | .short => 0 | .long => 1))) ∧
    (code = 10 → (∀ r : Fin 5, index.toNat = r.val → given (match st.tiers[r] with | .high => 0 | .low => 1)) ∧
      (5 ≤ index.toNat → refused)) ∧
    (code = 11 → (index = 0 → given (match st.supplyPolicy with | .fold => 0 | .freeze => 1)) ∧
      (index ≠ 0 → refused)) ∧
    (code.toNat = 0 ∨ 11 < code.toNat → refused) ∧
    (∀ payload, payload.length ≠ 2 →
      exec (.settingsRead p payload) s = .next (s.answer p 0xF1#8 { status := .badArg, body := [] }))

/-- SETTINGS_WRITE needs ADMIN, whatever the payload; it refuses a payload of another length, an item code outside Table
11-2, the machine mode, an index out of its item's range, a value that its item does not admit, and a write that would
leave no port with ADMIN; a taken write stores the value, clamped for interval length, class weight and smoothing shift,
changes nothing else but the reply and, for an enable set, that port's line, and answers CLAMPED exactly when it clamped
(R36, R162, R167, R176, R179). -/
def Obligations.SettingsWriteStoresOneItem : Prop :=
  (∀ (s : State) (p : Port), s.phase = .ready →
    let refused (payload : List Byte) (x : Status) : Prop :=
      exec (.settingsWrite p payload) s = .next (s.answer p 0xF2#8 { status := x, body := [] })
    (s.settings.holds p .admin = false → ∀ payload, refused payload .denied) ∧
    (s.settings.holds p .admin = true →
      (∀ payload, payload.length ≠ 4 → refused payload .badArg) ∧
      (∀ code index v1 v0 : Byte,
        code.toNat = 0 ∨ 11 < code.toNat ∨ code = 4 ∨
          ((code = 1 ∨ code = 11) ∧ index ≠ 0) ∨ (code = 2 ∧ 8 ≤ index.toNat) ∨
          ((code = 3 ∨ code = 5 ∨ code = 6 ∨ code = 7 ∨ code = 8 ∨ code = 9) ∧ 4 ≤ index.toNat) ∨
          (code = 10 ∧ 5 ≤ index.toNat) →
        refused [code, index, v1, v0] .badArg))) ∧
  (∀ (s : State) (p : Port) (code index : Byte) (item : SettingItem) (v : Half), s.phase = .ready →
    settingItem code index = some item →
    let payload : List Byte := [code, index] ++ bytes16 v
    let st := s.settings
    let refused (x : Status) : Prop := exec (.settingsWrite p payload) s = .next
      (s.answer p 0xF2#8 { status := x, body := [] })
    let stored (t : State) (w : Nat) : Prop := exec (.settingsWrite p payload) s = .next
      (t.answer p 0xF2#8
        { status := if w = v.toNat then .ok else .clamped
          body := [code, index] ++ bytes16 (BitVec.ofNat 16 w) })
    (st.holds p .admin = false → refused .denied) ∧
    (st.holds p .admin = true →
      match item with
      | .intervalLength =>
        let n := if v.toNat = 0 then 1 else if 240 < v.toNat then 240 else v.toNat
        stored { s with settings := { st with intervalLength := BitVec.ofNat 8 n } } n
      | .classWeight c =>
        let n := if 255 < v.toNat then 255 else v.toNat
        stored { s with settings := { st with weights := st.weights.set c (BitVec.ofNat 8 n) } } n
      | .smoothingShift m => ∃ k : Fin 8, k.val = (if 7 < v.toNat then 7 else v.toNat) ∧
        stored { s with settings := { st with shifts := st.shifts.set m k } } k.val
      | .machineMode _ => refused .badArg
      | .roleSet q => ∀ roles : Vector (BitVec 5) 4, roles = st.roles.set q (v.extractLsb' 0 5) →
        (32 ≤ v.toNat → refused .badArg) ∧
        ((∀ x : Port, roles[x].getLsbD 4 = false) → refused .badArg) ∧
        (v.toNat < 32 → (∃ x : Port, roles[x].getLsbD 4 = true) →
          stored { s with settings := { st with roles := roles } } v.toNat)
      | .binding q =>
        (16 ≤ v.toNat → refused .badArg) ∧
        (v.toNat < 16 →
          stored { s with settings := { st with bindings := st.bindings.set q (v.extractLsb' 0 4) } } v.toNat)
      | .notifyPolicy q =>
        (3 < v.toNat → refused .badArg) ∧
        (∀ x : NotifyPolicy, v.toNat = (match x with
            | .immediate => 0 | .deferred => 1 | .summary => 2 | .none => 3) →
          stored { s with settings := { st with policies := st.policies.set q x } } v.toNat)
      | .enableSet q =>
        (2048 ≤ v.toNat → refused .badArg) ∧
        (v.toNat < 2048 → ∃ line : Bool,
          (line = true ↔ ∃ c : Cause, hasCause s.attention[q].pending c = true ∧ v.getLsbD c.code = true) ∧
          stored { s with
            settings := { st with enables := st.enables.set q (v.extractLsb' 0 11) }
            attention := s.attention.set q { s.attention[q] with line := line } } v.toNat)
      | .discardTime q =>
        (1 < v.toNat → refused .badArg) ∧
        (∀ x : DiscardTime, v.toNat = (match x with | .short => 0 | .long => 1) →
          stored { s with settings := { st with discardTimes := st.discardTimes.set q x } } v.toNat)
      | .tierBit r =>
        (1 < v.toNat → refused .badArg) ∧
        (∀ x : Tier, v.toNat = (match x with | .high => 0 | .low => 1) →
          stored { s with settings := { st with tiers := st.tiers.set r x } } v.toNat)
      | .supplyPolicy =>
        (1 < v.toNat → refused .badArg) ∧
        (∀ x : SupplyPolicy, v.toNat = (match x with | .fold => 0 | .freeze => 1) →
          stored { s with settings := { st with supplyPolicy := x } } v.toNat)))

/-- STATUS_READ needs no role and no binding, changes nothing but the reply, and returns the values of R184 in order
with the encodings of R170; during start-up the port answers STARTING (R184). -/
def Obligations.StatusReadReportsThePart : Prop :=
  ∀ (s : State) (p : Port),
    let n16 (n : Nat) : List Byte := bytes16 (BitVec.ofNat 16 n)
    let closed : Option Interval := match s.foldState with
      | .idle => none
      | .foldWait i => some i
      | .folding i => some i
    let kindOf (q : Port) : Byte := match s.slots[q] with
      | .empty => 0#8
      | .waiting c => c.request.kind.code
      | .running c => c.request.kind.code
      | .ready c _ _ => c.request.kind.code
    let occupant : List Byte := match s.engine.occupant with
      | none => [0#8, 0#8]
      | some .fold => [1#8, 0#8]
      | some (.slot q) => [BitVec.ofNat 8 (q.val + 2), kindOf q]
    let sm := s.summary
    (s.phase = .starting → ∀ payload, exec (.statusRead p payload) s =
      .next (s.answer p 0xF0#8 { status := .starting, body := [] })) ∧
    (s.phase = .ready →
      exec (.statusRead p []) s = .next (s.answer p 0xF0#8
        { status := .ok
          body := bytes32 s.openInterval ++ bytes32 s.lastFolded ++
            (match closed with | none => [0#8, 0#8, 0#8, 0#8, 0#8] | some i => 1#8 :: bytes32 i) ++
            [match s.activeBank with | .a => 0#8 | .b => 1#8,
              match s.foldState with | .idle => 0#8 | .foldWait _ => 1#8 | .folding _ => 2#8,
              if s.pendingTrigger then 1#8 else 0#8,
              match s.timer with | .stopped => 0#8 | .running _ => 1#8 | .expired => 2#8] ++
            n16 (match s.timer with | .running halves => (halves + 1) / 2 | _ => 0) ++ occupant ++
            bytes32 sm.interval ++ n16 sm.credited ++ n16 sm.rateOnly ++ n16 sm.skipped ++ n16 sm.newHits ++
            [BitVec.ofNat 8 sm.saturatedCells,
              BitVec.ofNat 8 ((if sm.discarded[0] then 1 else 0) + (if sm.discarded[1] then 2 else 0) +
                (if sm.discarded[2] then 4 else 0) + (if sm.discarded[3] then 8 else 0)),
              match s.supply with | .deasserted => 0#8 | .asserted => 1#8,
              match s.settings.supplyPolicy with | .fold => 0#8 | .freeze => 1#8,
              match s.origin with | .power => 0#8 | .line => 1#8 | .port q => BitVec.ofNat 8 (q.val + 2)] }) ∧
      (∀ b rest, exec (.statusRead p (b :: rest)) s = .next (s.answer p 0xF0#8 { status := .badArg, body := [] })))

/-- Power-up, the RESET line and a taken RESTART begin start-up with their own origin: the store, the pins and the supply
state stay, every slot, pending set, queue, engine and arbiter is reset, every link takes Table 9-5 and the timer stops.
RESTART without ADMIN is DENIED and with a payload BAD_ARG, and acts on nothing (R4, R65, R158, R169, R177, R181). The
model's choice (log 8): fold state, pending trigger, plans and queues have their reset values from the start of start-up,
where R183 clears them after the rebuild. -/
def Obligations.StartUpBegins : Prop :=
  ∀ s : State,
    let begun (origin : RestartOrigin) (t : State) : Prop :=
      t = { s with
        origin := origin, bankA := t.bankA, bankB := t.bankB, activeBank := t.activeBank, openInterval := t.openInterval
        foldState := t.foldState, pendingTrigger := t.pendingTrigger, timer := t.timer, engine := t.engine
        arbiter := t.arbiter, slots := t.slots, queues := t.queues, plans := t.plans, attention := t.attention
        links := t.links, phase := .starting } ∧
      t.timer = .stopped ∧ t.engine = .idle ∧ t.foldState = .idle ∧ t.pendingTrigger = false ∧
      t.arbiter = { high := .low, low := .fold, waiting := Vector.replicate 5 false } ∧
      (∀ q : Port, t.slots[q] = .empty ∧ t.attention[q].pending = 0 ∧ t.attention[q].line = false ∧
        (∀ c : HitCause, t.attention[q].summaries[c.ix] = { count := 0, lowest := none }) ∧
        t.links[q] = { s.links[q] with rx := .hunt, tx := .fill }) ∧
      (∀ m : MachineId, t.queues[m] = { entries := [], revision := 0 } ∧ t.plans[m].state = .none)
    (∃ t, exec .powerUp s = .next t ∧ begun .power t) ∧
    (∃ t, exec .resetLine s = .next t ∧ begun .line t) ∧
    (∀ p : Port, s.phase = .ready →
      (s.settings.holds p .admin = true →
        (∃ t, exec (.restart p []) s = .next t ∧ begun (.port p) t) ∧
        ∀ b rest, exec (.restart p (b :: rest)) s =
          .next (s.answer p 0xF3#8 { status := .badArg, body := [] })) ∧
      (s.settings.holds p .admin = false → ∀ payload, exec (.restart p payload) s =
        .next (s.answer p 0xF3#8 { status := .denied, body := [] })))

/-- The entry into READY sets the volatile state to its reset values, samples the supply-low input, restarts the timer and
makes STARTED pending at all four ports, with SUPPLY if the input is asserted and no trigger for it; it keeps F, the
summary, windows, settings, origin and every link, and changes no record but for history heads (R40, R104, R155, R169,
R177, R183). -/
def Obligations.EnterReadySetsTheResetValues : Prop :=
  ∀ s : State, s.phase = .starting →
    ∃ t, exec .enterReady s = .next t ∧
      t = { s with
        elements := t.elements, pool := t.pool, bankA := Bank.zero, bankB := Bank.zero, activeBank := .a
        openInterval := if s.lastFolded = 4294967295#32 then 4294967295#32 else s.lastFolded + 1
        foldState := .idle, pendingTrigger := false
        timer := .running (s.settings.intervalLength.toNat * 120), engine := .idle
        arbiter := { high := .low, low := .fold, waiting := Vector.replicate 5 false }
        slots := Vector.replicate 4 .empty, queues := t.queues
        plans := Vector.replicate 4 Plan.none, attention := t.attention, supply := s.supplyPin, phase := .ready } ∧
      (∀ e : ElementIx, t.elements[e] = { s.elements[e] with head := t.elements[e].head }) ∧
      t.pool.blocks = s.pool.blocks ∧
      (∀ m : MachineId, t.queues[m].revision = 0) ∧ QueuesMatchRecords t ∧
      (∀ q : Port,
        (∀ c : Cause, hasCause t.attention[q].pending c = true ↔
          c = .started ∨ (c = .supply ∧ s.supplyPin = .asserted)) ∧
        (∀ c : HitCause, t.attention[q].summaries[c.ix] = { count := 0, lowest := none })) ∧
      LinesFollowSets t

/-- Chain repair at the entry into READY leaves a store that meets R131, whatever chains it found, and changes nothing on a
store that already meets it. Each kept chain is a first part of the chain found; it is cut before a block only where the
same chain or the chain of a lower index keeps that block, so the lower index keeps a shared block; a kept block keeps its
entry, but for the last block of a chain cut behind a NEXT entry, which becomes LAST(6); a head is kept or becomes NONE
(R182, Table 11-3). -/
def Obligations.ChainRepairRestoresR131 : Prop :=
  ∀ (s t : State), s.phase = .starting → exec .enterReady s = .next t →
    let found (e : ElementIx) : List BlockIx := chainOf s.pool.alloc s.elements[e].head
    let kept (e : ElementIx) : List BlockIx := chainOf t.pool.alloc t.elements[e].head
    ChainsMeetR131 t.elements t.pool.alloc ∧
    (∀ e : ElementIx, t.elements[e].head = s.elements[e].head ∨ t.elements[e].head = none) ∧
    (ChainsMeetR131 s.elements s.pool.alloc → t.elements = s.elements ∧ t.pool = s.pool) ∧
    t.pool.blocks = s.pool.blocks ∧
    (∀ e : ElementIx, kept e <+: found e) ∧
    (∀ (e : ElementIx) (b : BlockIx) (rest : List BlockIx), s.elements[e].state ≠ .vacant →
      kept e ++ b :: rest = found e → b ∈ kept e ∨ ∃ f : ElementIx, f < e ∧ b ∈ kept f) ∧
    (∀ (e : ElementIx) (b : BlockIx), b ∈ kept e →
      (t.pool.alloc[b] = s.pool.alloc[b] ∨
        (kept e).getLast? = some b ∧ (∃ n, s.pool.alloc[b] = .next n) ∧ t.pool.alloc[b] = .last 5))

/-- An assertion of the supply-low input outside start-up raises SUPPLY at all four ports and under FOLD is a trigger; an
input that stays asserted, and one that changes during start-up, changes no state but the input itself; a deassertion
changes the supply state and nothing further (R38, R185). -/
def Obligations.SupplyEventsRaiseAndTrigger : Prop :=
  ∀ s : State,
    let driven : State := { s with supplyPin := .asserted }
    let raised : State := raiseAt (fun _ => true) .supply { driven with supply := .asserted }
    (s.phase = .ready → s.supply = .deasserted →
      (s.settings.supplyPolicy = .freeze → exec .supplyAssertion s = .next raised) ∧
      (s.settings.supplyPolicy = .fold →
        (s.foldState = .idle → exec .supplyAssertion s = .next raised.swap) ∧
        (s.foldState ≠ .idle → exec .supplyAssertion s = .next { raised with pendingTrigger := true }))) ∧
    (s.phase = .ready → s.supply = .asserted → exec .supplyAssertion s = .next driven) ∧
    (s.phase = .starting → exec .supplyAssertion s = .next driven ∧
      exec .supplyDeassertion s = .next { s with supplyPin := .deasserted }) ∧
    (s.phase = .ready → exec .supplyDeassertion s = .next
      { s with supplyPin := .deasserted, supply := .deasserted })

/-! ## The model's own stops -/

/-- The model's choice (log 4): an event row of the part's own stops by name where the spec says the event does not
arise. -/
def Obligations.OwnEventsStopWhereTheyDoNotArise : Prop :=
  ∀ s : State,
    (∀ p : Port, (∀ reply, s.links[p].tx ≠ .preparing reply) → exec (.replyReady p) s = .fault .noReplyPreparing) ∧
    ((∀ n, s.timer ≠ .running n) → exec .intervalTimerExpiry s = .fault .timerNotRunning) ∧
    (s.phase = .ready → exec .enterReady s = .fault .notInStartUp) ∧
    ((∀ run e, s.engine = .fold run → run.stage ≠ .step e) → exec .elementStep s = .fault .noElementStep) ∧
    (∀ x ∈ ([(.foldCompletion, .store), (.markPlansStale, .markStale), (.handDeferredHits, .handHits),
        (.clearClosedBank, .clearBank), (.releaseEngine, .release)] : List (Instr × FoldStage)),
      (∀ run, s.engine = .fold run → run.stage ≠ x.2) → exec x.1 s = .fault .stageOutOfTurn) ∧
    ((∀ p run copy, s.engine = .build p run → s.slots[p] ≠ .running copy) →
      exec .planBuildCompletion s = .fault .noPlanBuild) ∧
    ((∀ p copy e skip, s.engine = .lookup p → s.slots[p] = .running copy → copy.request ≠ .historyRead e skip) →
      exec .historyReadCompletion s = .fault .noHistoryRead) ∧
    ((∀ p copy selector flags start, s.engine = .lookup p → s.slots[p] = .running copy →
        copy.request ≠ .elementFind selector flags start) →
      exec .elementFindCompletion s = .fault .noElementFind) ∧
    (∀ p : Port, (∀ copy result n, s.slots[p] ≠ .ready copy result n) →
      exec (.discardTimerExpiry p) s = .fault .noHeldResult)

/-! ## Invariants that every step keeps -/

/-- Every step keeps each port's attention line asserted exactly when its pending and enable sets share a cause (R171). -/
def Obligations.EveryStepKeepsLinesWithSets : Prop :=
  ∀ s t : State, LinesFollowSets s → step s = .next t → LinesFollowSets t

/-- Every step keeps the store within its fields' ranges and some port holding ADMIN (R8, R36, R99, R167). -/
def Obligations.EveryStepKeepsTheStoreInRange : Prop :=
  ∀ s t : State, StoreInRange s → step s = .next t → StoreInRange t

/-- Every step keeps each due queue in order and holding exactly the ACTIVE elements of its machine whose due is not
NONE (R85, R86, R88, R97). -/
def Obligations.EveryStepKeepsQueuesWithRecords : Prop :=
  ∀ s t : State, QueuesMatchRecords s → step s = .next t → QueuesMatchRecords t

/-- Every step keeps slots, fold state, waiting set and engine in agreement (R31, R143, R144, R155, R156). -/
def Obligations.EveryStepKeepsEngineAgreement : Prop :=
  ∀ s t : State, EngineAgrees s → step s = .next t → EngineAgrees t

/-- Every step keeps the relation of the open interval, the closed interval and F, with the closed bank zero and no
pending trigger in IDLE (R28, R39). -/
def Obligations.EveryStepKeepsIntervalNumbers : Prop :=
  ∀ s t : State, IntervalNumbersAgree s → step s = .next t → IntervalNumbersAgree t

/-- Every step keeps every history block FREE or in exactly one element's chain, and every chain within four blocks and
ending at a LAST entry (R131). -/
def Obligations.EveryStepKeepsChainsSound : Prop :=
  ∀ s t : State, ChainsMeetR131 s.elements s.pool.alloc → step s = .next t →
    ChainsMeetR131 t.elements t.pool.alloc
end

