-- ==== Sys2Proof/Laws/State.lean ====
section
/-! SUPPORT. The small lemmas of the state's updates: for each named update, the fields it leaves as they were and the
value of the field it writes. -/

namespace Sys2Proof.Machine

/-! ## Fixed tables, read at an index of their own range -/

theorem get_set {α : Type} {n : Nat} (v : Vector α n) (i j : Fin n) (x : α) :
    (v.set i x)[j] = if i = j then x else v[j] := by
  simp only [Fin.getElem_fin, Vector.getElem_set, Fin.val_inj]

theorem get_set_same {α : Type} {n : Nat} (v : Vector α n) (i : Fin n) (x : α) : (v.set i x)[i] = x := by
  rw [get_set, if_pos rfl]

theorem get_set_other {α : Type} {n : Nat} (v : Vector α n) {i j : Fin n} (x : α) (h : i ≠ j) :
    (v.set i x)[j] = v[j] := by
  rw [get_set, if_neg h]

theorem get_ofFn {α : Type} {n : Nat} (f : Fin n → α) (i : Fin n) : (Vector.ofFn f)[i] = f i := by
  simp

theorem get_replicate {α : Type} {n : Nat} (x : α) (i : Fin n) : (Vector.replicate n x)[i] = x := by
  simp

theorem get_map {α β : Type} {n : Nat} (f : α → β) (v : Vector α n) (i : Fin n) : (v.map f)[i] = f v[i] := by
  simp

/-- Two tables with equal entries are equal. -/
theorem table_ext {α : Type} {n : Nat} {v w : Vector α n} (h : ∀ i : Fin n, v[i] = w[i]) : v = w := by
  apply Vector.ext
  intro i hi
  exact h ⟨i, hi⟩

/-! ## Updates -/

@[simp] theorem State.write_pool (s : State) (e : ElementIx) (r : Element) : (s.write e r).pool = s.pool := rfl
@[simp] theorem State.write_windows (s : State) (e : ElementIx) (r : Element) : (s.write e r).windows = s.windows := rfl
@[simp] theorem State.write_lastFolded (s : State) (e : ElementIx) (r : Element) : (s.write e r).lastFolded = s.lastFolded := rfl
@[simp] theorem State.write_summary (s : State) (e : ElementIx) (r : Element) : (s.write e r).summary = s.summary := rfl
@[simp] theorem State.write_settings (s : State) (e : ElementIx) (r : Element) : (s.write e r).settings = s.settings := rfl
@[simp] theorem State.write_origin (s : State) (e : ElementIx) (r : Element) : (s.write e r).origin = s.origin := rfl
@[simp] theorem State.write_bankA (s : State) (e : ElementIx) (r : Element) : (s.write e r).bankA = s.bankA := rfl
@[simp] theorem State.write_bankB (s : State) (e : ElementIx) (r : Element) : (s.write e r).bankB = s.bankB := rfl
@[simp] theorem State.write_activeBank (s : State) (e : ElementIx) (r : Element) : (s.write e r).activeBank = s.activeBank := rfl
@[simp] theorem State.write_openInterval (s : State) (e : ElementIx) (r : Element) : (s.write e r).openInterval = s.openInterval := rfl
@[simp] theorem State.write_foldState (s : State) (e : ElementIx) (r : Element) : (s.write e r).foldState = s.foldState := rfl
@[simp] theorem State.write_pendingTrigger (s : State) (e : ElementIx) (r : Element) : (s.write e r).pendingTrigger = s.pendingTrigger := rfl
@[simp] theorem State.write_timer (s : State) (e : ElementIx) (r : Element) : (s.write e r).timer = s.timer := rfl
@[simp] theorem State.write_engine (s : State) (e : ElementIx) (r : Element) : (s.write e r).engine = s.engine := rfl
@[simp] theorem State.write_arbiter (s : State) (e : ElementIx) (r : Element) : (s.write e r).arbiter = s.arbiter := rfl
@[simp] theorem State.write_slots (s : State) (e : ElementIx) (r : Element) : (s.write e r).slots = s.slots := rfl
@[simp] theorem State.write_queues (s : State) (e : ElementIx) (r : Element) : (s.write e r).queues = s.queues := rfl
@[simp] theorem State.write_plans (s : State) (e : ElementIx) (r : Element) : (s.write e r).plans = s.plans := rfl
@[simp] theorem State.write_attention (s : State) (e : ElementIx) (r : Element) : (s.write e r).attention = s.attention := rfl
@[simp] theorem State.write_links (s : State) (e : ElementIx) (r : Element) : (s.write e r).links = s.links := rfl
@[simp] theorem State.write_supply (s : State) (e : ElementIx) (r : Element) : (s.write e r).supply = s.supply := rfl
@[simp] theorem State.write_supplyPin (s : State) (e : ElementIx) (r : Element) : (s.write e r).supplyPin = s.supplyPin := rfl
@[simp] theorem State.write_phase (s : State) (e : ElementIx) (r : Element) : (s.write e r).phase = s.phase := rfl
@[simp] theorem State.write_pending (s : State) (e : ElementIx) (r : Element) : (s.write e r).pending = s.pending := rfl

@[simp] theorem State.place_elements (s : State) (m : MachineId) (e : ElementIx) (d : Option Interval) : (s.place m e d).elements = s.elements := rfl
@[simp] theorem State.place_pool (s : State) (m : MachineId) (e : ElementIx) (d : Option Interval) : (s.place m e d).pool = s.pool := rfl
@[simp] theorem State.place_windows (s : State) (m : MachineId) (e : ElementIx) (d : Option Interval) : (s.place m e d).windows = s.windows := rfl
@[simp] theorem State.place_lastFolded (s : State) (m : MachineId) (e : ElementIx) (d : Option Interval) : (s.place m e d).lastFolded = s.lastFolded := rfl
@[simp] theorem State.place_summary (s : State) (m : MachineId) (e : ElementIx) (d : Option Interval) : (s.place m e d).summary = s.summary := rfl
@[simp] theorem State.place_settings (s : State) (m : MachineId) (e : ElementIx) (d : Option Interval) : (s.place m e d).settings = s.settings := rfl
@[simp] theorem State.place_origin (s : State) (m : MachineId) (e : ElementIx) (d : Option Interval) : (s.place m e d).origin = s.origin := rfl
@[simp] theorem State.place_bankA (s : State) (m : MachineId) (e : ElementIx) (d : Option Interval) : (s.place m e d).bankA = s.bankA := rfl
@[simp] theorem State.place_bankB (s : State) (m : MachineId) (e : ElementIx) (d : Option Interval) : (s.place m e d).bankB = s.bankB := rfl
@[simp] theorem State.place_activeBank (s : State) (m : MachineId) (e : ElementIx) (d : Option Interval) : (s.place m e d).activeBank = s.activeBank := rfl
@[simp] theorem State.place_openInterval (s : State) (m : MachineId) (e : ElementIx) (d : Option Interval) : (s.place m e d).openInterval = s.openInterval := rfl
@[simp] theorem State.place_foldState (s : State) (m : MachineId) (e : ElementIx) (d : Option Interval) : (s.place m e d).foldState = s.foldState := rfl
@[simp] theorem State.place_pendingTrigger (s : State) (m : MachineId) (e : ElementIx) (d : Option Interval) : (s.place m e d).pendingTrigger = s.pendingTrigger := rfl
@[simp] theorem State.place_timer (s : State) (m : MachineId) (e : ElementIx) (d : Option Interval) : (s.place m e d).timer = s.timer := rfl
@[simp] theorem State.place_engine (s : State) (m : MachineId) (e : ElementIx) (d : Option Interval) : (s.place m e d).engine = s.engine := rfl
@[simp] theorem State.place_arbiter (s : State) (m : MachineId) (e : ElementIx) (d : Option Interval) : (s.place m e d).arbiter = s.arbiter := rfl
@[simp] theorem State.place_slots (s : State) (m : MachineId) (e : ElementIx) (d : Option Interval) : (s.place m e d).slots = s.slots := rfl
@[simp] theorem State.place_plans (s : State) (m : MachineId) (e : ElementIx) (d : Option Interval) : (s.place m e d).plans = s.plans := rfl
@[simp] theorem State.place_attention (s : State) (m : MachineId) (e : ElementIx) (d : Option Interval) : (s.place m e d).attention = s.attention := rfl
@[simp] theorem State.place_links (s : State) (m : MachineId) (e : ElementIx) (d : Option Interval) : (s.place m e d).links = s.links := rfl
@[simp] theorem State.place_supply (s : State) (m : MachineId) (e : ElementIx) (d : Option Interval) : (s.place m e d).supply = s.supply := rfl
@[simp] theorem State.place_supplyPin (s : State) (m : MachineId) (e : ElementIx) (d : Option Interval) : (s.place m e d).supplyPin = s.supplyPin := rfl
@[simp] theorem State.place_phase (s : State) (m : MachineId) (e : ElementIx) (d : Option Interval) : (s.place m e d).phase = s.phase := rfl
@[simp] theorem State.place_pending (s : State) (m : MachineId) (e : ElementIx) (d : Option Interval) : (s.place m e d).pending = s.pending := rfl

@[simp] theorem State.remove_elements (s : State) (m : MachineId) (e : ElementIx) : (s.remove m e).elements = s.elements := rfl
@[simp] theorem State.remove_pool (s : State) (m : MachineId) (e : ElementIx) : (s.remove m e).pool = s.pool := rfl
@[simp] theorem State.remove_windows (s : State) (m : MachineId) (e : ElementIx) : (s.remove m e).windows = s.windows := rfl
@[simp] theorem State.remove_lastFolded (s : State) (m : MachineId) (e : ElementIx) : (s.remove m e).lastFolded = s.lastFolded := rfl
@[simp] theorem State.remove_summary (s : State) (m : MachineId) (e : ElementIx) : (s.remove m e).summary = s.summary := rfl
@[simp] theorem State.remove_settings (s : State) (m : MachineId) (e : ElementIx) : (s.remove m e).settings = s.settings := rfl
@[simp] theorem State.remove_origin (s : State) (m : MachineId) (e : ElementIx) : (s.remove m e).origin = s.origin := rfl
@[simp] theorem State.remove_bankA (s : State) (m : MachineId) (e : ElementIx) : (s.remove m e).bankA = s.bankA := rfl
@[simp] theorem State.remove_bankB (s : State) (m : MachineId) (e : ElementIx) : (s.remove m e).bankB = s.bankB := rfl
@[simp] theorem State.remove_activeBank (s : State) (m : MachineId) (e : ElementIx) : (s.remove m e).activeBank = s.activeBank := rfl
@[simp] theorem State.remove_openInterval (s : State) (m : MachineId) (e : ElementIx) : (s.remove m e).openInterval = s.openInterval := rfl
@[simp] theorem State.remove_foldState (s : State) (m : MachineId) (e : ElementIx) : (s.remove m e).foldState = s.foldState := rfl
@[simp] theorem State.remove_pendingTrigger (s : State) (m : MachineId) (e : ElementIx) : (s.remove m e).pendingTrigger = s.pendingTrigger := rfl
@[simp] theorem State.remove_timer (s : State) (m : MachineId) (e : ElementIx) : (s.remove m e).timer = s.timer := rfl
@[simp] theorem State.remove_engine (s : State) (m : MachineId) (e : ElementIx) : (s.remove m e).engine = s.engine := rfl
@[simp] theorem State.remove_arbiter (s : State) (m : MachineId) (e : ElementIx) : (s.remove m e).arbiter = s.arbiter := rfl
@[simp] theorem State.remove_slots (s : State) (m : MachineId) (e : ElementIx) : (s.remove m e).slots = s.slots := rfl
@[simp] theorem State.remove_plans (s : State) (m : MachineId) (e : ElementIx) : (s.remove m e).plans = s.plans := rfl
@[simp] theorem State.remove_attention (s : State) (m : MachineId) (e : ElementIx) : (s.remove m e).attention = s.attention := rfl
@[simp] theorem State.remove_links (s : State) (m : MachineId) (e : ElementIx) : (s.remove m e).links = s.links := rfl
@[simp] theorem State.remove_supply (s : State) (m : MachineId) (e : ElementIx) : (s.remove m e).supply = s.supply := rfl
@[simp] theorem State.remove_supplyPin (s : State) (m : MachineId) (e : ElementIx) : (s.remove m e).supplyPin = s.supplyPin := rfl
@[simp] theorem State.remove_phase (s : State) (m : MachineId) (e : ElementIx) : (s.remove m e).phase = s.phase := rfl
@[simp] theorem State.remove_pending (s : State) (m : MachineId) (e : ElementIx) : (s.remove m e).pending = s.pending := rfl

@[simp] theorem State.setWindow_elements (s : State) (m : MachineId) (w : WindowSlot) (v : Option Window) : (s.setWindow m w v).elements = s.elements := rfl
@[simp] theorem State.setWindow_pool (s : State) (m : MachineId) (w : WindowSlot) (v : Option Window) : (s.setWindow m w v).pool = s.pool := rfl
@[simp] theorem State.setWindow_lastFolded (s : State) (m : MachineId) (w : WindowSlot) (v : Option Window) : (s.setWindow m w v).lastFolded = s.lastFolded := rfl
@[simp] theorem State.setWindow_summary (s : State) (m : MachineId) (w : WindowSlot) (v : Option Window) : (s.setWindow m w v).summary = s.summary := rfl
@[simp] theorem State.setWindow_settings (s : State) (m : MachineId) (w : WindowSlot) (v : Option Window) : (s.setWindow m w v).settings = s.settings := rfl
@[simp] theorem State.setWindow_origin (s : State) (m : MachineId) (w : WindowSlot) (v : Option Window) : (s.setWindow m w v).origin = s.origin := rfl
@[simp] theorem State.setWindow_bankA (s : State) (m : MachineId) (w : WindowSlot) (v : Option Window) : (s.setWindow m w v).bankA = s.bankA := rfl
@[simp] theorem State.setWindow_bankB (s : State) (m : MachineId) (w : WindowSlot) (v : Option Window) : (s.setWindow m w v).bankB = s.bankB := rfl
@[simp] theorem State.setWindow_activeBank (s : State) (m : MachineId) (w : WindowSlot) (v : Option Window) : (s.setWindow m w v).activeBank = s.activeBank := rfl
@[simp] theorem State.setWindow_openInterval (s : State) (m : MachineId) (w : WindowSlot) (v : Option Window) : (s.setWindow m w v).openInterval = s.openInterval := rfl
@[simp] theorem State.setWindow_foldState (s : State) (m : MachineId) (w : WindowSlot) (v : Option Window) : (s.setWindow m w v).foldState = s.foldState := rfl
@[simp] theorem State.setWindow_pendingTrigger (s : State) (m : MachineId) (w : WindowSlot) (v : Option Window) : (s.setWindow m w v).pendingTrigger = s.pendingTrigger := rfl
@[simp] theorem State.setWindow_timer (s : State) (m : MachineId) (w : WindowSlot) (v : Option Window) : (s.setWindow m w v).timer = s.timer := rfl
@[simp] theorem State.setWindow_engine (s : State) (m : MachineId) (w : WindowSlot) (v : Option Window) : (s.setWindow m w v).engine = s.engine := rfl
@[simp] theorem State.setWindow_arbiter (s : State) (m : MachineId) (w : WindowSlot) (v : Option Window) : (s.setWindow m w v).arbiter = s.arbiter := rfl
@[simp] theorem State.setWindow_slots (s : State) (m : MachineId) (w : WindowSlot) (v : Option Window) : (s.setWindow m w v).slots = s.slots := rfl
@[simp] theorem State.setWindow_queues (s : State) (m : MachineId) (w : WindowSlot) (v : Option Window) : (s.setWindow m w v).queues = s.queues := rfl
@[simp] theorem State.setWindow_plans (s : State) (m : MachineId) (w : WindowSlot) (v : Option Window) : (s.setWindow m w v).plans = s.plans := rfl
@[simp] theorem State.setWindow_attention (s : State) (m : MachineId) (w : WindowSlot) (v : Option Window) : (s.setWindow m w v).attention = s.attention := rfl
@[simp] theorem State.setWindow_links (s : State) (m : MachineId) (w : WindowSlot) (v : Option Window) : (s.setWindow m w v).links = s.links := rfl
@[simp] theorem State.setWindow_supply (s : State) (m : MachineId) (w : WindowSlot) (v : Option Window) : (s.setWindow m w v).supply = s.supply := rfl
@[simp] theorem State.setWindow_supplyPin (s : State) (m : MachineId) (w : WindowSlot) (v : Option Window) : (s.setWindow m w v).supplyPin = s.supplyPin := rfl
@[simp] theorem State.setWindow_phase (s : State) (m : MachineId) (w : WindowSlot) (v : Option Window) : (s.setWindow m w v).phase = s.phase := rfl
@[simp] theorem State.setWindow_pending (s : State) (m : MachineId) (w : WindowSlot) (v : Option Window) : (s.setWindow m w v).pending = s.pending := rfl

@[simp] theorem State.setLink_elements (s : State) (p : Port) (l : Link) : (s.setLink p l).elements = s.elements := rfl
@[simp] theorem State.setLink_pool (s : State) (p : Port) (l : Link) : (s.setLink p l).pool = s.pool := rfl
@[simp] theorem State.setLink_windows (s : State) (p : Port) (l : Link) : (s.setLink p l).windows = s.windows := rfl
@[simp] theorem State.setLink_lastFolded (s : State) (p : Port) (l : Link) : (s.setLink p l).lastFolded = s.lastFolded := rfl
@[simp] theorem State.setLink_summary (s : State) (p : Port) (l : Link) : (s.setLink p l).summary = s.summary := rfl
@[simp] theorem State.setLink_settings (s : State) (p : Port) (l : Link) : (s.setLink p l).settings = s.settings := rfl
@[simp] theorem State.setLink_origin (s : State) (p : Port) (l : Link) : (s.setLink p l).origin = s.origin := rfl
@[simp] theorem State.setLink_bankA (s : State) (p : Port) (l : Link) : (s.setLink p l).bankA = s.bankA := rfl
@[simp] theorem State.setLink_bankB (s : State) (p : Port) (l : Link) : (s.setLink p l).bankB = s.bankB := rfl
@[simp] theorem State.setLink_activeBank (s : State) (p : Port) (l : Link) : (s.setLink p l).activeBank = s.activeBank := rfl
@[simp] theorem State.setLink_openInterval (s : State) (p : Port) (l : Link) : (s.setLink p l).openInterval = s.openInterval := rfl
@[simp] theorem State.setLink_foldState (s : State) (p : Port) (l : Link) : (s.setLink p l).foldState = s.foldState := rfl
@[simp] theorem State.setLink_pendingTrigger (s : State) (p : Port) (l : Link) : (s.setLink p l).pendingTrigger = s.pendingTrigger := rfl
@[simp] theorem State.setLink_timer (s : State) (p : Port) (l : Link) : (s.setLink p l).timer = s.timer := rfl
@[simp] theorem State.setLink_engine (s : State) (p : Port) (l : Link) : (s.setLink p l).engine = s.engine := rfl
@[simp] theorem State.setLink_arbiter (s : State) (p : Port) (l : Link) : (s.setLink p l).arbiter = s.arbiter := rfl
@[simp] theorem State.setLink_slots (s : State) (p : Port) (l : Link) : (s.setLink p l).slots = s.slots := rfl
@[simp] theorem State.setLink_queues (s : State) (p : Port) (l : Link) : (s.setLink p l).queues = s.queues := rfl
@[simp] theorem State.setLink_plans (s : State) (p : Port) (l : Link) : (s.setLink p l).plans = s.plans := rfl
@[simp] theorem State.setLink_attention (s : State) (p : Port) (l : Link) : (s.setLink p l).attention = s.attention := rfl
@[simp] theorem State.setLink_supply (s : State) (p : Port) (l : Link) : (s.setLink p l).supply = s.supply := rfl
@[simp] theorem State.setLink_supplyPin (s : State) (p : Port) (l : Link) : (s.setLink p l).supplyPin = s.supplyPin := rfl
@[simp] theorem State.setLink_phase (s : State) (p : Port) (l : Link) : (s.setLink p l).phase = s.phase := rfl
@[simp] theorem State.setLink_pending (s : State) (p : Port) (l : Link) : (s.setLink p l).pending = s.pending := rfl

@[simp] theorem State.answer_elements (s : State) (p : Port) (k : Byte) (a : Answer) : (s.answer p k a).elements = s.elements := rfl
@[simp] theorem State.answer_pool (s : State) (p : Port) (k : Byte) (a : Answer) : (s.answer p k a).pool = s.pool := rfl
@[simp] theorem State.answer_windows (s : State) (p : Port) (k : Byte) (a : Answer) : (s.answer p k a).windows = s.windows := rfl
@[simp] theorem State.answer_lastFolded (s : State) (p : Port) (k : Byte) (a : Answer) : (s.answer p k a).lastFolded = s.lastFolded := rfl
@[simp] theorem State.answer_summary (s : State) (p : Port) (k : Byte) (a : Answer) : (s.answer p k a).summary = s.summary := rfl
@[simp] theorem State.answer_settings (s : State) (p : Port) (k : Byte) (a : Answer) : (s.answer p k a).settings = s.settings := rfl
@[simp] theorem State.answer_origin (s : State) (p : Port) (k : Byte) (a : Answer) : (s.answer p k a).origin = s.origin := rfl
@[simp] theorem State.answer_bankA (s : State) (p : Port) (k : Byte) (a : Answer) : (s.answer p k a).bankA = s.bankA := rfl
@[simp] theorem State.answer_bankB (s : State) (p : Port) (k : Byte) (a : Answer) : (s.answer p k a).bankB = s.bankB := rfl
@[simp] theorem State.answer_activeBank (s : State) (p : Port) (k : Byte) (a : Answer) : (s.answer p k a).activeBank = s.activeBank := rfl
@[simp] theorem State.answer_openInterval (s : State) (p : Port) (k : Byte) (a : Answer) : (s.answer p k a).openInterval = s.openInterval := rfl
@[simp] theorem State.answer_foldState (s : State) (p : Port) (k : Byte) (a : Answer) : (s.answer p k a).foldState = s.foldState := rfl
@[simp] theorem State.answer_pendingTrigger (s : State) (p : Port) (k : Byte) (a : Answer) : (s.answer p k a).pendingTrigger = s.pendingTrigger := rfl
@[simp] theorem State.answer_timer (s : State) (p : Port) (k : Byte) (a : Answer) : (s.answer p k a).timer = s.timer := rfl
@[simp] theorem State.answer_engine (s : State) (p : Port) (k : Byte) (a : Answer) : (s.answer p k a).engine = s.engine := rfl
@[simp] theorem State.answer_arbiter (s : State) (p : Port) (k : Byte) (a : Answer) : (s.answer p k a).arbiter = s.arbiter := rfl
@[simp] theorem State.answer_slots (s : State) (p : Port) (k : Byte) (a : Answer) : (s.answer p k a).slots = s.slots := rfl
@[simp] theorem State.answer_queues (s : State) (p : Port) (k : Byte) (a : Answer) : (s.answer p k a).queues = s.queues := rfl
@[simp] theorem State.answer_plans (s : State) (p : Port) (k : Byte) (a : Answer) : (s.answer p k a).plans = s.plans := rfl
@[simp] theorem State.answer_attention (s : State) (p : Port) (k : Byte) (a : Answer) : (s.answer p k a).attention = s.attention := rfl
@[simp] theorem State.answer_supply (s : State) (p : Port) (k : Byte) (a : Answer) : (s.answer p k a).supply = s.supply := rfl
@[simp] theorem State.answer_supplyPin (s : State) (p : Port) (k : Byte) (a : Answer) : (s.answer p k a).supplyPin = s.supplyPin := rfl
@[simp] theorem State.answer_phase (s : State) (p : Port) (k : Byte) (a : Answer) : (s.answer p k a).phase = s.phase := rfl
@[simp] theorem State.answer_pending (s : State) (p : Port) (k : Byte) (a : Answer) : (s.answer p k a).pending = s.pending := rfl

@[simp] theorem State.setEnable_elements (s : State) (p : Port) (c : CauseSet) : (s.setEnable p c).elements = s.elements := rfl
@[simp] theorem State.setEnable_pool (s : State) (p : Port) (c : CauseSet) : (s.setEnable p c).pool = s.pool := rfl
@[simp] theorem State.setEnable_windows (s : State) (p : Port) (c : CauseSet) : (s.setEnable p c).windows = s.windows := rfl
@[simp] theorem State.setEnable_lastFolded (s : State) (p : Port) (c : CauseSet) : (s.setEnable p c).lastFolded = s.lastFolded := rfl
@[simp] theorem State.setEnable_summary (s : State) (p : Port) (c : CauseSet) : (s.setEnable p c).summary = s.summary := rfl
@[simp] theorem State.setEnable_origin (s : State) (p : Port) (c : CauseSet) : (s.setEnable p c).origin = s.origin := rfl
@[simp] theorem State.setEnable_bankA (s : State) (p : Port) (c : CauseSet) : (s.setEnable p c).bankA = s.bankA := rfl
@[simp] theorem State.setEnable_bankB (s : State) (p : Port) (c : CauseSet) : (s.setEnable p c).bankB = s.bankB := rfl
@[simp] theorem State.setEnable_activeBank (s : State) (p : Port) (c : CauseSet) : (s.setEnable p c).activeBank = s.activeBank := rfl
@[simp] theorem State.setEnable_openInterval (s : State) (p : Port) (c : CauseSet) : (s.setEnable p c).openInterval = s.openInterval := rfl
@[simp] theorem State.setEnable_foldState (s : State) (p : Port) (c : CauseSet) : (s.setEnable p c).foldState = s.foldState := rfl
@[simp] theorem State.setEnable_pendingTrigger (s : State) (p : Port) (c : CauseSet) : (s.setEnable p c).pendingTrigger = s.pendingTrigger := rfl
@[simp] theorem State.setEnable_timer (s : State) (p : Port) (c : CauseSet) : (s.setEnable p c).timer = s.timer := rfl
@[simp] theorem State.setEnable_engine (s : State) (p : Port) (c : CauseSet) : (s.setEnable p c).engine = s.engine := rfl
@[simp] theorem State.setEnable_arbiter (s : State) (p : Port) (c : CauseSet) : (s.setEnable p c).arbiter = s.arbiter := rfl
@[simp] theorem State.setEnable_slots (s : State) (p : Port) (c : CauseSet) : (s.setEnable p c).slots = s.slots := rfl
@[simp] theorem State.setEnable_queues (s : State) (p : Port) (c : CauseSet) : (s.setEnable p c).queues = s.queues := rfl
@[simp] theorem State.setEnable_plans (s : State) (p : Port) (c : CauseSet) : (s.setEnable p c).plans = s.plans := rfl
@[simp] theorem State.setEnable_links (s : State) (p : Port) (c : CauseSet) : (s.setEnable p c).links = s.links := rfl
@[simp] theorem State.setEnable_supply (s : State) (p : Port) (c : CauseSet) : (s.setEnable p c).supply = s.supply := rfl
@[simp] theorem State.setEnable_supplyPin (s : State) (p : Port) (c : CauseSet) : (s.setEnable p c).supplyPin = s.supplyPin := rfl
@[simp] theorem State.setEnable_phase (s : State) (p : Port) (c : CauseSet) : (s.setEnable p c).phase = s.phase := rfl
@[simp] theorem State.setEnable_pending (s : State) (p : Port) (c : CauseSet) : (s.setEnable p c).pending = s.pending := rfl

@[simp] theorem State.setBank_elements (s : State) (id : BankId) (b : Bank) : (s.setBank id b).elements = s.elements := by cases id <;> rfl
@[simp] theorem State.setBank_pool (s : State) (id : BankId) (b : Bank) : (s.setBank id b).pool = s.pool := by cases id <;> rfl
@[simp] theorem State.setBank_windows (s : State) (id : BankId) (b : Bank) : (s.setBank id b).windows = s.windows := by cases id <;> rfl
@[simp] theorem State.setBank_lastFolded (s : State) (id : BankId) (b : Bank) : (s.setBank id b).lastFolded = s.lastFolded := by cases id <;> rfl
@[simp] theorem State.setBank_summary (s : State) (id : BankId) (b : Bank) : (s.setBank id b).summary = s.summary := by cases id <;> rfl
@[simp] theorem State.setBank_settings (s : State) (id : BankId) (b : Bank) : (s.setBank id b).settings = s.settings := by cases id <;> rfl
@[simp] theorem State.setBank_origin (s : State) (id : BankId) (b : Bank) : (s.setBank id b).origin = s.origin := by cases id <;> rfl
@[simp] theorem State.setBank_activeBank (s : State) (id : BankId) (b : Bank) : (s.setBank id b).activeBank = s.activeBank := by cases id <;> rfl
@[simp] theorem State.setBank_openInterval (s : State) (id : BankId) (b : Bank) : (s.setBank id b).openInterval = s.openInterval := by cases id <;> rfl
@[simp] theorem State.setBank_foldState (s : State) (id : BankId) (b : Bank) : (s.setBank id b).foldState = s.foldState := by cases id <;> rfl
@[simp] theorem State.setBank_pendingTrigger (s : State) (id : BankId) (b : Bank) : (s.setBank id b).pendingTrigger = s.pendingTrigger := by cases id <;> rfl
@[simp] theorem State.setBank_timer (s : State) (id : BankId) (b : Bank) : (s.setBank id b).timer = s.timer := by cases id <;> rfl
@[simp] theorem State.setBank_engine (s : State) (id : BankId) (b : Bank) : (s.setBank id b).engine = s.engine := by cases id <;> rfl
@[simp] theorem State.setBank_arbiter (s : State) (id : BankId) (b : Bank) : (s.setBank id b).arbiter = s.arbiter := by cases id <;> rfl
@[simp] theorem State.setBank_slots (s : State) (id : BankId) (b : Bank) : (s.setBank id b).slots = s.slots := by cases id <;> rfl
@[simp] theorem State.setBank_queues (s : State) (id : BankId) (b : Bank) : (s.setBank id b).queues = s.queues := by cases id <;> rfl
@[simp] theorem State.setBank_plans (s : State) (id : BankId) (b : Bank) : (s.setBank id b).plans = s.plans := by cases id <;> rfl
@[simp] theorem State.setBank_attention (s : State) (id : BankId) (b : Bank) : (s.setBank id b).attention = s.attention := by cases id <;> rfl
@[simp] theorem State.setBank_links (s : State) (id : BankId) (b : Bank) : (s.setBank id b).links = s.links := by cases id <;> rfl
@[simp] theorem State.setBank_supply (s : State) (id : BankId) (b : Bank) : (s.setBank id b).supply = s.supply := by cases id <;> rfl
@[simp] theorem State.setBank_supplyPin (s : State) (id : BankId) (b : Bank) : (s.setBank id b).supplyPin = s.supplyPin := by cases id <;> rfl
@[simp] theorem State.setBank_phase (s : State) (id : BankId) (b : Bank) : (s.setBank id b).phase = s.phase := by cases id <;> rfl
@[simp] theorem State.setBank_pending (s : State) (id : BankId) (b : Bank) : (s.setBank id b).pending = s.pending := by cases id <;> rfl

/-! ## The fields that the updates write -/

@[simp] theorem State.write_elements (s : State) (e : ElementIx) (r : Element) :
    (s.write e r).elements = s.elements.set e r := rfl

@[simp] theorem State.place_queues (s : State) (m : MachineId) (e : ElementIx) (d : Option Interval) :
    (s.place m e d).queues = s.queues.set m (s.queues[m].place e d) := rfl

@[simp] theorem State.remove_queues (s : State) (m : MachineId) (e : ElementIx) :
    (s.remove m e).queues = s.queues.set m (s.queues[m].remove e) := rfl

@[simp] theorem State.setWindow_windows (s : State) (m : MachineId) (w : WindowSlot) (v : Option Window) :
    (s.setWindow m w v).windows = s.windows.set m (s.windows[m].set w v) := rfl

@[simp] theorem State.setLink_links (s : State) (p : Port) (l : Link) : (s.setLink p l).links = s.links.set p l := rfl

@[simp] theorem State.answer_links (s : State) (p : Port) (k : Byte) (a : Answer) :
    (s.answer p k a).links = s.links.set p { s.links[p] with
      rx := .hunt, tx := .preparing { kind := k, payload := a.status.code :: a.body } } := rfl

@[simp] theorem State.setEnable_settings (s : State) (p : Port) (c : CauseSet) :
    (s.setEnable p c).settings = { s.settings with enables := s.settings.enables.set p c } := rfl

@[simp] theorem State.setEnable_attention (s : State) (p : Port) (c : CauseSet) :
    (s.setEnable p c).attention = s.attention.set p (s.attention[p].withPending s.attention[p].pending c) := rfl

@[simp] theorem State.setBank_get (s : State) (id other : BankId) (b : Bank) :
    (s.setBank id b).bank other = if id = other then b else s.bank other := by
  cases id <;> cases other <;> rfl

@[simp] theorem BankId.other_ne (id : BankId) : id.other ≠ id := by cases id <;> decide

@[simp] theorem BankId.other_other (id : BankId) : id.other.other = id := by cases id <;> rfl

end Sys2Proof.Machine
end

