-- ==== Sys2Proof/Laws/Frames.lean ====
section
/-! SUPPORT. The frames of the shared operations of Machine/Ops.lean: the fields that each leaves as they were. -/

namespace Sys2Proof.Machine

/-! ## Raises, staleness, appends, reprojection -/

@[simp] theorem raiseAt_frame (at_ : Port → Bool) (c : Cause) (s : State) :
    (raiseAt at_ c s).elements = s.elements ∧ (raiseAt at_ c s).pool = s.pool ∧
    (raiseAt at_ c s).windows = s.windows ∧ (raiseAt at_ c s).lastFolded = s.lastFolded ∧
    (raiseAt at_ c s).summary = s.summary ∧ (raiseAt at_ c s).settings = s.settings ∧
    (raiseAt at_ c s).origin = s.origin ∧ (raiseAt at_ c s).bankA = s.bankA ∧
    (raiseAt at_ c s).bankB = s.bankB ∧ (raiseAt at_ c s).activeBank = s.activeBank ∧
    (raiseAt at_ c s).openInterval = s.openInterval ∧ (raiseAt at_ c s).foldState = s.foldState ∧
    (raiseAt at_ c s).pendingTrigger = s.pendingTrigger ∧ (raiseAt at_ c s).timer = s.timer ∧
    (raiseAt at_ c s).engine = s.engine ∧ (raiseAt at_ c s).arbiter = s.arbiter ∧
    (raiseAt at_ c s).slots = s.slots ∧ (raiseAt at_ c s).queues = s.queues ∧
    (raiseAt at_ c s).plans = s.plans ∧ (raiseAt at_ c s).links = s.links ∧
    (raiseAt at_ c s).supply = s.supply ∧ (raiseAt at_ c s).supplyPin = s.supplyPin ∧
    (raiseAt at_ c s).phase = s.phase ∧ (raiseAt at_ c s).pending = s.pending := by unfold raiseAt; split <;> simp

@[simp] theorem hitAt_frame (at_ : Port → Bool) (c : HitCause) (n : Nat) (l : Option ElementIx) (s : State) :
    (hitAt at_ c n l s).elements = s.elements ∧ (hitAt at_ c n l s).pool = s.pool ∧
    (hitAt at_ c n l s).windows = s.windows ∧ (hitAt at_ c n l s).lastFolded = s.lastFolded ∧
    (hitAt at_ c n l s).summary = s.summary ∧ (hitAt at_ c n l s).settings = s.settings ∧
    (hitAt at_ c n l s).origin = s.origin ∧ (hitAt at_ c n l s).bankA = s.bankA ∧
    (hitAt at_ c n l s).bankB = s.bankB ∧ (hitAt at_ c n l s).activeBank = s.activeBank ∧
    (hitAt at_ c n l s).openInterval = s.openInterval ∧ (hitAt at_ c n l s).foldState = s.foldState ∧
    (hitAt at_ c n l s).pendingTrigger = s.pendingTrigger ∧ (hitAt at_ c n l s).timer = s.timer ∧
    (hitAt at_ c n l s).engine = s.engine ∧ (hitAt at_ c n l s).arbiter = s.arbiter ∧
    (hitAt at_ c n l s).slots = s.slots ∧ (hitAt at_ c n l s).queues = s.queues ∧
    (hitAt at_ c n l s).plans = s.plans ∧ (hitAt at_ c n l s).links = s.links ∧
    (hitAt at_ c n l s).supply = s.supply ∧ (hitAt at_ c n l s).supplyPin = s.supplyPin ∧
    (hitAt at_ c n l s).phase = s.phase ∧ (hitAt at_ c n l s).pending = s.pending := by unfold hitAt; split <;> simp

@[simp] theorem staleEvent_frame (m : MachineId) (s : State) :
    (staleEvent m s).elements = s.elements ∧ (staleEvent m s).pool = s.pool ∧
    (staleEvent m s).windows = s.windows ∧ (staleEvent m s).lastFolded = s.lastFolded ∧
    (staleEvent m s).summary = s.summary ∧ (staleEvent m s).settings = s.settings ∧
    (staleEvent m s).origin = s.origin ∧ (staleEvent m s).bankA = s.bankA ∧
    (staleEvent m s).bankB = s.bankB ∧ (staleEvent m s).activeBank = s.activeBank ∧
    (staleEvent m s).openInterval = s.openInterval ∧ (staleEvent m s).foldState = s.foldState ∧
    (staleEvent m s).pendingTrigger = s.pendingTrigger ∧ (staleEvent m s).timer = s.timer ∧
    (staleEvent m s).arbiter = s.arbiter ∧ (staleEvent m s).slots = s.slots ∧
    (staleEvent m s).queues = s.queues ∧ (staleEvent m s).links = s.links ∧
    (staleEvent m s).supply = s.supply ∧ (staleEvent m s).supplyPin = s.supplyPin ∧
    (staleEvent m s).phase = s.phase ∧ (staleEvent m s).pending = s.pending := by unfold staleEvent; split <;> simp

@[simp] theorem State.appendHistory_frame (s : State) (e : ElementIx) (h : HistoryRecord) :
    ((s.appendHistory e h).1).windows = s.windows ∧ ((s.appendHistory e h).1).lastFolded = s.lastFolded ∧
    ((s.appendHistory e h).1).summary = s.summary ∧ ((s.appendHistory e h).1).settings = s.settings ∧
    ((s.appendHistory e h).1).origin = s.origin ∧ ((s.appendHistory e h).1).bankA = s.bankA ∧
    ((s.appendHistory e h).1).bankB = s.bankB ∧ ((s.appendHistory e h).1).activeBank = s.activeBank ∧
    ((s.appendHistory e h).1).openInterval = s.openInterval ∧
    ((s.appendHistory e h).1).foldState = s.foldState ∧
    ((s.appendHistory e h).1).pendingTrigger = s.pendingTrigger ∧
    ((s.appendHistory e h).1).timer = s.timer ∧ ((s.appendHistory e h).1).engine = s.engine ∧
    ((s.appendHistory e h).1).arbiter = s.arbiter ∧ ((s.appendHistory e h).1).slots = s.slots ∧
    ((s.appendHistory e h).1).queues = s.queues ∧ ((s.appendHistory e h).1).plans = s.plans ∧
    ((s.appendHistory e h).1).links = s.links ∧ ((s.appendHistory e h).1).supply = s.supply ∧
    ((s.appendHistory e h).1).supplyPin = s.supplyPin ∧ ((s.appendHistory e h).1).phase = s.phase ∧
    ((s.appendHistory e h).1).pending = s.pending := by unfold State.appendHistory; split <;> simp

@[simp] theorem State.reproject_frame (s : State) (e : ElementIx) (r : Element) :
    (s.reproject e r).pool = s.pool ∧ (s.reproject e r).windows = s.windows ∧
    (s.reproject e r).lastFolded = s.lastFolded ∧ (s.reproject e r).summary = s.summary ∧
    (s.reproject e r).settings = s.settings ∧ (s.reproject e r).origin = s.origin ∧
    (s.reproject e r).bankA = s.bankA ∧ (s.reproject e r).bankB = s.bankB ∧
    (s.reproject e r).activeBank = s.activeBank ∧ (s.reproject e r).openInterval = s.openInterval ∧
    (s.reproject e r).foldState = s.foldState ∧ (s.reproject e r).pendingTrigger = s.pendingTrigger ∧
    (s.reproject e r).timer = s.timer ∧ (s.reproject e r).arbiter = s.arbiter ∧
    (s.reproject e r).slots = s.slots ∧ (s.reproject e r).links = s.links ∧
    (s.reproject e r).supply = s.supply ∧ (s.reproject e r).supplyPin = s.supplyPin ∧
    (s.reproject e r).phase = s.phase ∧ (s.reproject e r).pending = s.pending := by unfold State.reproject; split <;> simp

/-! ## The engine, triggers and slots -/

@[simp] theorem State.begin_frame (s : State) (r : Requester) :
    (s.begin r).elements = s.elements ∧ (s.begin r).pool = s.pool ∧ (s.begin r).windows = s.windows ∧
    (s.begin r).lastFolded = s.lastFolded ∧ (s.begin r).summary = s.summary ∧
    (s.begin r).settings = s.settings ∧ (s.begin r).origin = s.origin ∧ (s.begin r).bankA = s.bankA ∧
    (s.begin r).bankB = s.bankB ∧ (s.begin r).activeBank = s.activeBank ∧
    (s.begin r).openInterval = s.openInterval ∧ (s.begin r).pendingTrigger = s.pendingTrigger ∧
    (s.begin r).timer = s.timer ∧ (s.begin r).arbiter = s.arbiter ∧ (s.begin r).queues = s.queues ∧
    (s.begin r).plans = s.plans ∧ (s.begin r).attention = s.attention ∧ (s.begin r).links = s.links ∧
    (s.begin r).supply = s.supply ∧ (s.begin r).supplyPin = s.supplyPin ∧ (s.begin r).phase = s.phase ∧
    (s.begin r).pending = s.pending := by unfold State.begin; (repeat' split) <;> simp

@[simp] theorem State.grant_frame (s : State) :
    (s.grant).elements = s.elements ∧ (s.grant).pool = s.pool ∧ (s.grant).windows = s.windows ∧
    (s.grant).lastFolded = s.lastFolded ∧ (s.grant).summary = s.summary ∧ (s.grant).settings = s.settings ∧
    (s.grant).origin = s.origin ∧ (s.grant).bankA = s.bankA ∧ (s.grant).bankB = s.bankB ∧
    (s.grant).activeBank = s.activeBank ∧ (s.grant).openInterval = s.openInterval ∧
    (s.grant).pendingTrigger = s.pendingTrigger ∧ (s.grant).timer = s.timer ∧ (s.grant).queues = s.queues ∧
    (s.grant).plans = s.plans ∧ (s.grant).attention = s.attention ∧ (s.grant).links = s.links ∧
    (s.grant).supply = s.supply ∧ (s.grant).supplyPin = s.supplyPin ∧ (s.grant).phase = s.phase ∧
    (s.grant).pending = s.pending := by unfold State.grant; (repeat' split) <;> simp

@[simp] theorem State.release_frame (s : State) :
    (s.release).elements = s.elements ∧ (s.release).pool = s.pool ∧ (s.release).windows = s.windows ∧
    (s.release).lastFolded = s.lastFolded ∧ (s.release).summary = s.summary ∧
    (s.release).settings = s.settings ∧ (s.release).origin = s.origin ∧ (s.release).bankA = s.bankA ∧
    (s.release).bankB = s.bankB ∧ (s.release).activeBank = s.activeBank ∧
    (s.release).openInterval = s.openInterval ∧ (s.release).pendingTrigger = s.pendingTrigger ∧
    (s.release).timer = s.timer ∧ (s.release).queues = s.queues ∧ (s.release).plans = s.plans ∧
    (s.release).attention = s.attention ∧ (s.release).links = s.links ∧ (s.release).supply = s.supply ∧
    (s.release).supplyPin = s.supplyPin ∧ (s.release).phase = s.phase ∧ (s.release).pending = s.pending := by simp [State.release]

@[simp] theorem State.startWaiting_frame (s : State) (r : Requester) :
    (s.startWaiting r).elements = s.elements ∧ (s.startWaiting r).pool = s.pool ∧
    (s.startWaiting r).windows = s.windows ∧ (s.startWaiting r).lastFolded = s.lastFolded ∧
    (s.startWaiting r).summary = s.summary ∧ (s.startWaiting r).settings = s.settings ∧
    (s.startWaiting r).origin = s.origin ∧ (s.startWaiting r).bankA = s.bankA ∧
    (s.startWaiting r).bankB = s.bankB ∧ (s.startWaiting r).activeBank = s.activeBank ∧
    (s.startWaiting r).openInterval = s.openInterval ∧
    (s.startWaiting r).pendingTrigger = s.pendingTrigger ∧ (s.startWaiting r).timer = s.timer ∧
    (s.startWaiting r).queues = s.queues ∧ (s.startWaiting r).plans = s.plans ∧
    (s.startWaiting r).attention = s.attention ∧ (s.startWaiting r).links = s.links ∧
    (s.startWaiting r).supply = s.supply ∧ (s.startWaiting r).supplyPin = s.supplyPin ∧
    (s.startWaiting r).phase = s.phase ∧ (s.startWaiting r).pending = s.pending := by simp [State.startWaiting]

@[simp] theorem State.swap_frame (s : State) :
    (s.swap).elements = s.elements ∧ (s.swap).pool = s.pool ∧ (s.swap).windows = s.windows ∧
    (s.swap).lastFolded = s.lastFolded ∧ (s.swap).summary = s.summary ∧ (s.swap).settings = s.settings ∧
    (s.swap).origin = s.origin ∧ (s.swap).bankA = s.bankA ∧ (s.swap).bankB = s.bankB ∧
    (s.swap).pendingTrigger = s.pendingTrigger ∧ (s.swap).queues = s.queues ∧ (s.swap).plans = s.plans ∧
    (s.swap).attention = s.attention ∧ (s.swap).links = s.links ∧ (s.swap).supply = s.supply ∧
    (s.swap).supplyPin = s.supplyPin ∧ (s.swap).phase = s.phase ∧ (s.swap).pending = s.pending := by simp [State.swap]

@[simp] theorem State.trigger_frame (s : State) :
    (s.trigger).elements = s.elements ∧ (s.trigger).pool = s.pool ∧ (s.trigger).windows = s.windows ∧
    (s.trigger).lastFolded = s.lastFolded ∧ (s.trigger).summary = s.summary ∧
    (s.trigger).settings = s.settings ∧ (s.trigger).origin = s.origin ∧ (s.trigger).bankA = s.bankA ∧
    (s.trigger).bankB = s.bankB ∧ (s.trigger).queues = s.queues ∧ (s.trigger).plans = s.plans ∧
    (s.trigger).attention = s.attention ∧ (s.trigger).links = s.links ∧ (s.trigger).supply = s.supply ∧
    (s.trigger).supplyPin = s.supplyPin ∧ (s.trigger).phase = s.phase ∧ (s.trigger).pending = s.pending := by unfold State.trigger; split <;> simp

@[simp] theorem State.expireInterval_frame (s : State) :
    (s.expireInterval).elements = s.elements ∧ (s.expireInterval).pool = s.pool ∧
    (s.expireInterval).windows = s.windows ∧ (s.expireInterval).lastFolded = s.lastFolded ∧
    (s.expireInterval).summary = s.summary ∧ (s.expireInterval).settings = s.settings ∧
    (s.expireInterval).origin = s.origin ∧ (s.expireInterval).bankA = s.bankA ∧
    (s.expireInterval).bankB = s.bankB ∧ (s.expireInterval).queues = s.queues ∧
    (s.expireInterval).plans = s.plans ∧ (s.expireInterval).attention = s.attention ∧
    (s.expireInterval).links = s.links ∧ (s.expireInterval).supply = s.supply ∧
    (s.expireInterval).supplyPin = s.supplyPin ∧ (s.expireInterval).phase = s.phase ∧
    (s.expireInterval).pending = s.pending := by unfold State.expireInterval; split <;> simp

@[simp] theorem State.complete_frame (s : State) (p : Port) (c : RequestCopy) (r : LongResult) :
    (s.complete p c r).elements = s.elements ∧ (s.complete p c r).pool = s.pool ∧
    (s.complete p c r).windows = s.windows ∧ (s.complete p c r).lastFolded = s.lastFolded ∧
    (s.complete p c r).summary = s.summary ∧ (s.complete p c r).settings = s.settings ∧
    (s.complete p c r).origin = s.origin ∧ (s.complete p c r).bankA = s.bankA ∧
    (s.complete p c r).bankB = s.bankB ∧ (s.complete p c r).activeBank = s.activeBank ∧
    (s.complete p c r).openInterval = s.openInterval ∧
    (s.complete p c r).pendingTrigger = s.pendingTrigger ∧ (s.complete p c r).timer = s.timer ∧
    (s.complete p c r).queues = s.queues ∧ (s.complete p c r).plans = s.plans ∧
    (s.complete p c r).links = s.links ∧ (s.complete p c r).supply = s.supply ∧
    (s.complete p c r).supplyPin = s.supplyPin ∧ (s.complete p c r).phase = s.phase ∧
    (s.complete p c r).pending = s.pending := by simp [State.complete]

@[simp] theorem State.discardResult_frame (s : State) (p : Port) :
    (s.discardResult p).elements = s.elements ∧ (s.discardResult p).pool = s.pool ∧
    (s.discardResult p).windows = s.windows ∧ (s.discardResult p).lastFolded = s.lastFolded ∧
    (s.discardResult p).summary = s.summary ∧ (s.discardResult p).settings = s.settings ∧
    (s.discardResult p).origin = s.origin ∧ (s.discardResult p).bankA = s.bankA ∧
    (s.discardResult p).bankB = s.bankB ∧ (s.discardResult p).activeBank = s.activeBank ∧
    (s.discardResult p).openInterval = s.openInterval ∧ (s.discardResult p).foldState = s.foldState ∧
    (s.discardResult p).pendingTrigger = s.pendingTrigger ∧ (s.discardResult p).timer = s.timer ∧
    (s.discardResult p).engine = s.engine ∧ (s.discardResult p).arbiter = s.arbiter ∧
    (s.discardResult p).queues = s.queues ∧ (s.discardResult p).plans = s.plans ∧
    (s.discardResult p).links = s.links ∧ (s.discardResult p).supply = s.supply ∧
    (s.discardResult p).supplyPin = s.supplyPin ∧ (s.discardResult p).phase = s.phase ∧
    (s.discardResult p).pending = s.pending := by simp [State.discardResult]

@[simp] theorem State.resetSlot_frame (s : State) (p : Port) :
    (s.resetSlot p).elements = s.elements ∧ (s.resetSlot p).pool = s.pool ∧
    (s.resetSlot p).windows = s.windows ∧ (s.resetSlot p).lastFolded = s.lastFolded ∧
    (s.resetSlot p).summary = s.summary ∧ (s.resetSlot p).settings = s.settings ∧
    (s.resetSlot p).origin = s.origin ∧ (s.resetSlot p).bankA = s.bankA ∧ (s.resetSlot p).bankB = s.bankB ∧
    (s.resetSlot p).activeBank = s.activeBank ∧ (s.resetSlot p).openInterval = s.openInterval ∧
    (s.resetSlot p).pendingTrigger = s.pendingTrigger ∧ (s.resetSlot p).timer = s.timer ∧
    (s.resetSlot p).queues = s.queues ∧ (s.resetSlot p).plans = s.plans ∧
    (s.resetSlot p).attention = s.attention ∧ (s.resetSlot p).links = s.links ∧
    (s.resetSlot p).supply = s.supply ∧ (s.resetSlot p).supplyPin = s.supplyPin ∧
    (s.resetSlot p).phase = s.phase ∧ (s.resetSlot p).pending = s.pending := by unfold State.resetSlot; (repeat' split) <;> simp

/-! ## Hand-overs of a step -/

/-- Stage 10 changes the attention records alone (R78, R79). -/
theorem handHits_frame (e : ElementIx) (m : MachineId) (hits : List HitFlag) (s : State) :
    handHits e m hits s = { s with attention := (handHits e m hits s).attention } := by
  unfold handHits
  induction hits generalizing s with
  | nil => rfl
  | cons f rest ih =>
    rw [List.foldl_cons, ih]
    unfold hitAt
    split <;> rfl

/-- What stage 10 does to the attention records depends on them, the settings and the phase alone (R79, R83). -/
theorem handHits_attention_congr (e : ElementIx) (m : MachineId) (hits : List HitFlag) {s t : State}
    (ha : s.attention = t.attention) (hs : s.settings = t.settings) (hp : s.phase = t.phase) :
    (handHits e m hits s).attention = (handHits e m hits t).attention := by
  unfold handHits
  induction hits generalizing s t with
  | nil => exact ha
  | cons f rest ih =>
    rw [List.foldl_cons, List.foldl_cons]
    apply ih
    all_goals unfold hitAt; rw [hp, hs]; split <;> simp_all

end Sys2Proof.Machine
end

