-- ==== Sys2Proof/Laws/Ops.lean ====
section
/-! SUPPORT. One lemma per shared operation that says once everything it can do. -/

namespace Sys2Proof.Machine

/-! ## Requests and their checks -/

/-- A request is answered STARTING during start-up, and otherwise as its block answers it (R162). -/
theorem takeRequest_cases (p : Port) (k : RequestKind) (block : State → State × Answer) (s : State) :
    (s.phase = .starting ∧ takeRequest p k block s = .next (s.answer p (replyKind k) (refuse .starting))) ∨
    (s.phase = .ready ∧ takeRequest p k block s = .next ((block s).1.answer p (replyKind k) (block s).2)) := by
  cases h : s.phase <;> simp [takeRequest, h]

theorem takeRequest_starting {s : State} (h : s.phase = .starting) (p : Port) (k : RequestKind)
    (block : State → State × Answer) :
    takeRequest p k block s = .next (s.answer p (replyKind k) (refuse .starting)) := by
  simp [takeRequest, h]

theorem takeRequest_ready {s : State} (h : s.phase = .ready) (p : Port) (k : RequestKind)
    (block : State → State × Answer) :
    takeRequest p k block s = .next ((block s).1.answer p (replyKind k) (block s).2) := by
  simp [takeRequest, h]

/-- A request that modifies an element changes nothing when a check refuses it, and otherwise acts on the record
its index names, at the record's generation (Table 1-5, Table 7-2). -/
theorem modifyElement_cases {α : Type} (p : Port) (role : Role) (args : Option (ElementIx × Generation × α))
    (act : ElementIx → Element → α → State → State × Answer) (s : State) :
    (∃ a, modifyElement p role args act s = (s, a)) ∨
    (∃ e x, args = some (e, s.elements[e].generation, x) ∧ s.settings.holds p role = true ∧
      s.elements[e].state ≠ .vacant ∧ s.settings.binds p s.elements[e].machine = true ∧
      modifyElement p role args act s = act e s.elements[e] x s) := by
  unfold modifyElement
  split
  · exact .inl ⟨_, rfl⟩
  · rename_i hrole
    match args with
    | none => exact .inl ⟨_, rfl⟩
    | some (e, g, x) =>
      dsimp only
      split
      · exact .inl ⟨_, rfl⟩
      · rename_i hv
        split
        · exact .inl ⟨_, rfl⟩
        · rename_i hb
          split
          · exact .inl ⟨_, rfl⟩
          · rename_i hg
            exact .inr ⟨e, x, by rw [not_not.mp hg], by simpa using hrole, hv, by simpa using hb, rfl⟩

/-- A report changes nothing when a check refuses it, and otherwise acts on the machine it names (Table 2-3). -/
theorem reportChecks_cases {α : Type} (p : Port) (args : Option (MachineId × α))
    (act : MachineId → α → State → State × Answer) (s : State) :
    (∃ a, reportChecks p args act s = (s, a)) ∨
    (∃ m x, args = some (m, x) ∧ s.settings.holds p .report = true ∧ s.settings.binds p m = true ∧
      s.reportsHeld = false ∧ reportChecks p args act s = act m x s) := by
  unfold reportChecks
  split
  · exact .inl ⟨_, rfl⟩
  · rename_i hrole
    match args with
    | none => exact .inl ⟨_, rfl⟩
    | some (m, x) =>
      dsimp only
      split
      · exact .inl ⟨_, rfl⟩
      · rename_i hb
        split
        · exact .inl ⟨_, rfl⟩
        · rename_i hh
          exact .inr ⟨m, x, rfl, by simpa using hrole, by simpa using hb, by simpa using hh, rfl⟩

/-- A stage of completion acts exactly when it is the next stage of the fold in progress (R58). -/
theorem completionStage_cases (stage : FoldStage) (act : FoldRun → State → State) (s : State) :
    (∃ run, s.engine = .fold run ∧ run.stage = stage ∧ completionStage stage act s = .next (act run s)) ∨
    completionStage stage act s = .fault .stageOutOfTurn := by
  unfold completionStage
  split
  · split
    · exact .inl ⟨_, ‹_›, ‹_›, rfl⟩
    · exact .inr rfl
  · exact .inr rfl

/-! ## Attention -/

@[simp] theorem PortAttention.raise_pending (a : PortAttention) (c : Cause) (enable : CauseSet) :
    (a.raise c enable).pending = a.pending ||| c.mask := rfl
@[simp] theorem PortAttention.raise_summaries (a : PortAttention) (c : Cause) (enable : CauseSet) :
    (a.raise c enable).summaries = a.summaries := rfl
@[simp] theorem PortAttention.raise_line (a : PortAttention) (c : Cause) (enable : CauseSet) :
    (a.raise c enable).line = lineOf (a.pending ||| c.mask) enable := rfl
@[simp] theorem PortAttention.hit_pending (a : PortAttention) (c : HitCause) (n : Nat) (l : Option ElementIx)
    (enable : CauseSet) : (a.hit c n l enable).pending = a.pending ||| c.cause.mask := rfl
@[simp] theorem PortAttention.hit_summaries (a : PortAttention) (c : HitCause) (n : Nat) (l : Option ElementIx)
    (enable : CauseSet) :
    (a.hit c n l enable).summaries = a.summaries.set c.ix (a.summaries[c.ix].add n l) := rfl
@[simp] theorem PortAttention.hit_line (a : PortAttention) (c : HitCause) (n : Nat) (l : Option ElementIx)
    (enable : CauseSet) : (a.hit c n l enable).line = lineOf (a.pending ||| c.cause.mask) enable := rfl

/-- A raise reaches exactly the ports it is for, and none during start-up (R172, R177). -/
theorem raiseAt_attention (at_ : Port → Bool) (c : Cause) (s : State) (p : Port) :
    (raiseAt at_ c s).attention[p] =
      if s.phase = .ready ∧ at_ p = true then s.attention[p].raise c s.settings.enables[p] else s.attention[p] := by
  cases h : s.phase
  · simp [raiseAt, h]
  · cases hp : at_ p <;> simp [raiseAt, h, hp]

/-- A hit reaches exactly the ports it is for, and none during start-up (R79, R177). -/
theorem hitAt_attention (at_ : Port → Bool) (c : HitCause) (n : Nat) (l : Option ElementIx) (s : State)
    (p : Port) :
    (hitAt at_ c n l s).attention[p] =
      if s.phase = .ready ∧ at_ p = true then s.attention[p].hit c n l s.settings.enables[p]
      else s.attention[p] := by
  cases h : s.phase
  · simp [hitAt, h]
  · cases hp : at_ p <;> simp [hitAt, h, hp]

/-! ## Staleness -/

/-- A staleness event marks a running build of its machine, and turns a FRESH plan STALE with PLAN_STALE (R106,
R107). -/
theorem staleEvent_cases (m : MachineId) (s : State) :
    (s.plans[m].state = .fresh ∧
      staleEvent m s = raiseAt (planPorts s.settings m) .planStale
        { s with engine := s.engine.watch m, plans := s.plans.set m { s.plans[m] with state := .stale } }) ∨
    (s.plans[m].state ≠ .fresh ∧ staleEvent m s = { s with engine := s.engine.watch m }) := by
  cases h : s.plans[m].state with
  | none => exact .inr ⟨by decide, by simp only [staleEvent, h]⟩
  | fresh => exact .inl ⟨rfl, by simp only [staleEvent, h]⟩
  | stale => exact .inr ⟨by decide, by simp only [staleEvent, h]⟩

@[simp] theorem staleEvent_engine (m : MachineId) (s : State) : (staleEvent m s).engine = s.engine.watch m := by
  rcases staleEvent_cases m s with ⟨_, h⟩ | ⟨_, h⟩ <;> simp [h]

/-! ## Appends -/

/-- An append keeps its record, or drops it and raises HISTORY_LOST at the ports bound to the element's machine
(R137). -/
theorem appendHistory_cases (s : State) (e : ElementIx) (h : HistoryRecord) :
    (∃ pool head, append s.pool s.elements[e].head h = some (pool, head) ∧
      s.appendHistory e h =
        ({ s with elements := s.elements.set e { s.elements[e] with head := head }, pool := pool }, true)) ∨
    (append s.pool s.elements[e].head h = none ∧
      s.appendHistory e h =
        (raiseAt (fun p => s.settings.binds p s.elements[e].machine) .historyLost s, false)) := by
  cases hA : append s.pool s.elements[e].head h with
  | none => exact .inr ⟨rfl, by simp only [State.appendHistory, hA]⟩
  | some r => exact .inl ⟨r.1, r.2, rfl, by simp only [State.appendHistory, hA, State.write]⟩

/-- An append writes no field of any record but the history head of its own (R126). -/
theorem appendHistory_elements (s : State) (e : ElementIx) (h : HistoryRecord) :
    ∃ head, (s.appendHistory e h).1.elements = s.elements.set e { s.elements[e] with head := head } := by
  rcases appendHistory_cases s e h with ⟨_, head, _, heq⟩ | ⟨_, heq⟩
  · exact ⟨head, by rw [heq]⟩
  · refine ⟨s.elements[e].head, ?_⟩
    rw [heq]
    apply table_ext
    intro i
    rw [get_set]
    split
    · rename_i hi; subst hi; simp
    · simp

/-! ## The engine -/

/-- A granted requester begins its operation: a fold in FOLD_WAIT, a slot in WAITING (R31, R148). -/
theorem begin_cases (s : State) (r : Requester) :
    (∃ i, r = .fold ∧ s.foldState = .foldWait i ∧
      s.begin r = { s with foldState := .folding i, engine := .fold (FoldRun.begin i s.settings) }) ∨
    (∃ p copy m, r = .slot p ∧ s.slots[p] = .waiting copy ∧ copy.request = .planBuild m ∧
      s.begin r = { s with
        slots := s.slots.set p (.running copy)
        engine := .build p { machine := m, windows := s.windows[m], queue := s.queues[m].entries,
                             stamp := s.lastFolded, watch := false } }) ∨
    (∃ p copy, r = .slot p ∧ s.slots[p] = .waiting copy ∧ (∀ m, copy.request ≠ .planBuild m) ∧
      s.begin r = { s with slots := s.slots.set p (.running copy), engine := .lookup p }) ∨
    s.begin r = s := by
  cases r with
  | fold =>
    cases h : s.foldState with
    | foldWait i => exact .inl ⟨i, rfl, rfl, by simp [State.begin, h]⟩
    | idle => exact .inr (.inr (.inr (by simp [State.begin, h])))
    | folding i => exact .inr (.inr (.inr (by simp [State.begin, h])))
  | slot p =>
    cases h : s.slots[p] with
    | waiting copy =>
      cases hr : copy.request with
      | planBuild m => exact .inr (.inl ⟨p, copy, m, rfl, h, hr, by simp only [State.begin, h, hr]⟩)
      | historyRead e k =>
        exact .inr (.inr (.inl ⟨p, copy, rfl, h, by simp [hr], by simp only [State.begin, h, hr]⟩))
      | elementFind a b c =>
        exact .inr (.inr (.inl ⟨p, copy, rfl, h, by simp [hr], by simp only [State.begin, h, hr]⟩))
    | empty => exact .inr (.inr (.inr (by simp only [State.begin, h])))
    | running copy => exact .inr (.inr (.inr (by simp only [State.begin, h])))
    | ready copy res n => exact .inr (.inr (.inr (by simp only [State.begin, h])))

/-- The arbiter grants an idle engine to the requester it chooses, and otherwise leaves the state (R156, R157). -/
theorem grant_cases (s : State) :
    (∃ r high low, s.phase = .ready ∧ s.engine = .idle ∧
      s.arbiter.choose s.settings.tiers = some (r, high, low) ∧
      s.grant = State.begin
        { s with arbiter := { high := high, low := low, waiting := s.arbiter.waiting.set r.ix false } } r) ∨
    (s.grant = s ∧
      (s.phase = .ready → s.engine = .idle → s.arbiter.choose s.settings.tiers = none)) := by
  unfold State.grant
  split
  · rename_i hp he
    split
    · rename_i r high low hc
      exact .inl ⟨r, high, low, hp, he, hc, rfl⟩
    · rename_i hc
      exact .inr ⟨rfl, fun _ _ => hc⟩
  · rename_i hn
    exact .inr ⟨rfl, fun hp he => (hn hp he).elim⟩

/-- Nothing is granted while the engine is occupied (R143). -/
theorem grant_occupied {s : State} (h : s.engine ≠ .idle) : s.grant = s := by
  rcases grant_cases s with ⟨_, _, _, _, he, _⟩ | ⟨hg, _⟩
  · exact (h he).elim
  · exact hg

/-! ## Triggers -/

/-- A trigger swaps in IDLE, and otherwise is marked or absorbed (Table 2-4). -/
theorem trigger_cases (s : State) :
    (s.foldState = .idle ∧ s.triggerEffect = .closed ∧ s.trigger = s.swap) ∨
    (s.foldState ≠ .idle ∧ s.pendingTrigger = false ∧ s.triggerEffect = .marked ∧
      s.trigger = { s with pendingTrigger := true }) ∨
    (s.foldState ≠ .idle ∧ s.pendingTrigger = true ∧ s.triggerEffect = .absorbed ∧ s.trigger = s) := by
  cases hf : s.foldState <;> cases hp : s.pendingTrigger <;> simp [State.trigger, State.triggerEffect, hf, hp]

/-- An expiry swaps in IDLE, and otherwise leaves the timer EXPIRED (R35). -/
theorem expireInterval_cases (s : State) :
    (s.foldState = .idle ∧ s.expireInterval = s.swap) ∨
    (s.foldState ≠ .idle ∧
      s.expireInterval = { s with pendingTrigger := true, timer := .expired }) := by
  rcases trigger_cases s with ⟨hf, he, ht⟩ | ⟨hf, hp, he, ht⟩ | ⟨hf, hp, he, ht⟩
  · exact .inl ⟨hf, by simp [State.expireInterval, he, ht]⟩
  · exact .inr ⟨hf, by simp [State.expireInterval, he, ht]⟩
  · refine .inr ⟨hf, ?_⟩
    simp only [State.expireInterval, he, ht]
    cases s
    simp_all

/-! ## Deferred slots -/

/-- A long request is taken by an EMPTY slot, collects a READY result that it repeats, or changes nothing (Table
8-3). -/
theorem takeLong_cases (p : Port) (req : LongRequest) (payload : List Byte) (s : State) :
    (s.slots[p] = .empty ∧ (takeLong p req payload s).1 =
      { s with slots := s.slots.set p (.waiting { request := req, payload := payload }) }.startWaiting (.slot p)) ∨
    (∃ c result n, s.slots[p] = .ready c result n ∧ c.same req payload = true ∧
      takeLong p req payload s =
        ({ s with slots := s.slots.set p .empty }, { status := .ok, body := result.bytes })) ∨
    ((takeLong p req payload s).1 = s) := by
  cases h : s.slots[p] with
  | empty => exact .inl ⟨rfl, by simp only [takeLong, h]⟩
  | ready c result n =>
    cases hs : c.same req payload with
    | true => exact .inr (.inl ⟨c, result, n, rfl, hs, by simp only [takeLong, h, hs, if_true]⟩)
    | false => exact .inr (.inr (by simp [takeLong, h, hs]))
  | waiting c => exact .inr (.inr (by simp only [takeLong, h]; split <;> rfl))
  | running c => exact .inr (.inr (by simp only [takeLong, h]; split <;> rfl))

/-- PORT_RESET empties the slot, withdraws its requester, and releases the engine that ran its operation (R152). -/
theorem resetSlot_cases (s : State) (p : Port) :
    (s.resetSlot p = { s with slots := s.slots.set p .empty, arbiter := s.arbiter.leave (.slot p) } ∧
      s.engine ≠ .lookup p ∧ ∀ run, s.engine ≠ .build p run) ∨
    (s.resetSlot p =
        State.release { s with slots := s.slots.set p .empty, arbiter := s.arbiter.leave (.slot p) } ∧
      (s.engine = .lookup p ∨ ∃ run, s.engine = .build p run)) := by
  cases he : s.engine with
  | idle => exact .inl ⟨by simp [State.resetSlot, he], by simp, by simp⟩
  | fold run => exact .inl ⟨by simp [State.resetSlot, he], by simp, by simp⟩
  | build q run =>
    by_cases h : q = p
    · subst h; exact .inr ⟨by simp [State.resetSlot, he], .inr ⟨run, rfl⟩⟩
    · exact .inl ⟨by simp [State.resetSlot, he, h], by simp, by simp [h]⟩
  | lookup q =>
    by_cases h : q = p
    · subst h; exact .inr ⟨by simp [State.resetSlot, he], .inl rfl⟩
    · exact .inl ⟨by simp [State.resetSlot, he, h], by simpa using h, by simp⟩

/-! ## Placement and start-up -/

/-- The walk of a build takes its entries one after the other (R112). -/
theorem placeAll_append (windows : Vector (Option Window) 8) (queue : List QueueEntry) (x : QueueEntry) :
    placeAll windows (queue ++ [x]) = placeEntry windows (horizon windows) (placeAll windows queue) x := by
  unfold placeAll
  rw [List.foldl_append, List.foldl_cons, List.foldl_nil]

/-- The entry into READY leaves the records and the pool as the chain repair left them (R182, R183). -/
theorem enterReady_store {s : State} (h : s.phase = .starting) :
    ∃ t, exec .enterReady s = .next t ∧ t.elements = s.repair.elements ∧ t.pool = s.repair.pool := by
  refine ⟨s.repair.rebuild.resetVolatile.becomeReady, by simp only [exec, execEnterReady, h], ?_, ?_⟩ <;>
    · unfold State.becomeReady
      split <;> simp [State.resetVolatile, State.rebuild]

/-! ## Time -/

/-- Half a second at one slot: a held result loses it, or is discarded when its time ends; no other slot is timed
(R151). -/
theorem tickSlot_cases (s : State) (p : Port) :
    (∃ c r n, s.slots[p] = .ready c r n ∧ 1 < n ∧
      s.tickSlot p = { s with slots := s.slots.set p (.ready c r (n - 1)) }) ∨
    (∃ c r n, s.slots[p] = .ready c r n ∧ n ≤ 1 ∧ s.tickSlot p = s.discardResult p) ∨
    ((∀ c r n, s.slots[p] ≠ .ready c r n) ∧ s.tickSlot p = s) := by
  cases h : s.slots[p] with
  | ready c r n =>
    by_cases hn : 1 < n
    · exact .inl ⟨c, r, n, rfl, hn, by simp only [State.tickSlot, h, if_pos hn]⟩
    · exact .inr (.inl ⟨c, r, n, rfl, by omega, by simp only [State.tickSlot, h, if_neg hn]⟩)
  | empty => exact .inr (.inr ⟨by simp, by simp only [State.tickSlot, h]⟩)
  | waiting c => exact .inr (.inr ⟨by simp, by simp only [State.tickSlot, h]⟩)
  | running c => exact .inr (.inr ⟨by simp, by simp only [State.tickSlot, h]⟩)

end Sys2Proof.Machine
end

