-- ==== Sys2Proof/WellFormed.lean ====
section
/-! DEFINITION. Which commands are well formed: those that a frame or an event of the part can spell. -/

namespace Sys2Proof

/-- A request payload fits a frame (R160). -/
def payloadFits (payload : List Byte) : Bool := payload.length ≤ Config.maxRequestPayload

/-- A command that can arise: payloads of 0 to 56 bytes (R160), a SERVICE_POST payload in the row it spells
(Table 7-1), an UNKNOWN kind that the catalogue does not list (R162). -/
def Instr.wf : Instr → Bool
  | .elementDefine _ b | .elementVacate _ b | .elementSuspend _ b | .elementResume _ b | .limitsSet _ b
  | .hitsAck _ b | .elementRead _ b | .passReport _ b | .runReport _ b | .reckonNow _ b | .modeSet _ b
  | .queueRead _ b | .windowSet _ b | .windowDrop _ b | .planBuild _ b | .planRead _ b | .historyRead _ b
  | .elementFind _ b | .portReset _ b | .attnRead _ b | .attnClear _ b | .attnEnable _ b | .statusRead _ b
  | .settingsRead _ b | .settingsWrite _ b | .restart _ b => payloadFits b
  | .servicePostReplaced _ b => payloadFits b && postRow b == .replacement
  | .servicePostInspected _ b => payloadFits b && postRow b == .inspection
  | .servicePostCorrected _ b => payloadFits b && postRow b == .correction
  | .unknown _ k => (requestKindOf k).isNone
  | .frameError _ _ | .selHigh _ | .replyReady _ | .intervalTimerExpiry | .supplyAssertion
  | .supplyDeassertion | .powerUp | .resetLine | .enterReady | .elementStep | .foldCompletion
  | .markPlansStale | .handDeferredHits | .clearClosedBank | .releaseEngine | .planBuildCompletion
  | .historyReadCompletion | .elementFindCompletion | .discardTimerExpiry _ | .linkByte _ _ => true

end Sys2Proof
end

