-- ==== Sys2Proof/Tests/Slice0.lean ====
section
/-! SUPPORT. Tests: ill-formed commands refused, the worked examples of the data book one command at a time, and for every
obligation with hypotheses a concrete case that meets them. Expected values come from spec/, cited at each test. -/

namespace Sys2Proof.Tests

open Sys2Proof.Machine

/- One theorem at a time: a hundred kernel evaluations at once ask for more threads than the memory limit grants. -/
set_option Elab.async false

/-! ## Helpers -/

/-- A blank part in READY. -/
def ready : State := { State.reset with phase := .ready, timer := .running 1800 }

/-- The state after a command. -/
def after (c : Instr) (s : State) : State :=
  match exec c s with
  | .next t => t
  | _ => s

/-- The fault a command stops with, if it stops. -/
def faultOf (c : Instr) (s : State) : Option Fault :=
  match exec c s with
  | .fault f => some f
  | _ => none

/-- What a port holds to send: KIND, status and body of a reply in the making, or the frame being sent. -/
def sent (s : State) (p : Port) : List Byte :=
  match s.links[p].tx with
  | .preparing r => r.kind :: r.payload
  | .sending frame _ => frame
  | .fill => []

/-- A number in `k` bytes, most significant first, written apart from the model's own encoders. -/
def be (k n : Nat) : List Byte := (List.range k).map fun i => BitVec.ofNat 8 (n / 256 ^ (k - 1 - i))

/-- A state with one more record. -/
def put (e : ElementIx) (r : Element) (s : State) : State := { s with elements := s.elements.set e r }

theorem put_get (e f : ElementIx) (r : Element) (s : State) :
    (put e r s).elements[f] = if f = e then r else s.elements[f] := by
  by_cases h : f = e
  · subst h; simp [put]
  · have h' : e.val ≠ f.val := fun hv => h (Fin.ext hv.symm)
    simp [put, h, Vector.getElem_set_ne, h']

theorem ready_get (f : ElementIx) : ready.elements[f] = Element.blank := by simp [ready, State.reset]

/-- A blank part in READY with one port's link as given. -/
def withLink (p : Port) (l : Link) : State := { ready with links := ready.links.set p l }

/-! ## Ill-formed commands -/

theorem test_wf_payload_at_most_56 :
    (Instr.statusRead 0 (List.replicate 57 0)).wf = false ∧ (Instr.passReport 3 (List.replicate 57 0)).wf = false ∧
    (Instr.statusRead 0 (List.replicate 56 0)).wf = true := by decide

theorem test_wf_service_post_rows :
    (Instr.servicePostReplaced 0 [0, 9, 4, 1, 0, 0, 0, 0, 0, 0]).wf = false ∧
    (Instr.servicePostInspected 0 [0, 9, 4, 1, 0, 1, 0, 0, 0, 0]).wf = false ∧
    (Instr.servicePostCorrected 0 [0, 9, 4, 1, 0, 0, 0, 0, 0, 0]).wf = false ∧
    (Instr.servicePostReplaced 0 [0, 9, 4, 0, 0, 0, 0, 0, 0, 0]).wf = true ∧
    (Instr.servicePostInspected 0 [0, 9, 4, 1, 0, 0, 0, 0, 0, 0]).wf = true ∧
    (Instr.servicePostCorrected 0 [0, 9, 4, 1, 0, 1, 0, 0, 0, 0]).wf = true := by decide

theorem test_wf_unknown_is_not_catalogued :
    (Instr.unknown 0 0x22).wf = false ∧ (Instr.unknown 0 0x23).wf = true := by decide

/-- Table 9-4: every kind's code, in the table's order. -/
theorem test_catalogue :
    requestKinds.map RequestKind.code =
      [0x10, 0x11, 0x12, 0x13, 0x14, 0x15, 0x16, 0x20, 0x21, 0x22, 0x30, 0x38, 0x40, 0x41, 0x42, 0x43, 0x50, 0x51,
       0x58, 0x60, 0x68, 0x69, 0x6A, 0x70, 0x71, 0x72, 0x73] ∧
    (∀ k ∈ requestKinds, requestKindOf k.code = some k) ∧ requestKindOf 0x17 = none := by decide

/-! ## Element Table: section 1.13 -/

def before120 : State :=
  { put 120 { Element.blank with generation := 6 } ready with
    lastFolded := 40110, openInterval := 40111
    settings :=
      { Settings.blank with
        bindings := #v[15, 2, 15, 15], roles := #v[16, 4, 0, 10], weights := #v[2, 5, 12, 20, 30, 0, 0, 0] } }

def define120 : List Byte :=
  be 2 120 ++ [0, 1, 4, 24, 10] ++ be 4 1600000 ++ be 4 1500000 ++ be 2 20000 ++ be 2 40000

/-- Step 1. -/
theorem test_define_clamps_belt_rate_and_plan :
    let t := after (.elementDefine 1 define120) before120
    sent t 1 = [0x90, 1] ++ be 2 120 ++ [7, 24, 0] ++ be 4 1500000 ∧
    t.elements[(120 : Fin 512)].start = 40111 ∧ t.elements[(120 : Fin 512)].due = none ∧
    t.elements[(120 : Fin 512)].head = some 0 ∧ t.pool.alloc[(0 : Fin 256)] = .last 0 := by decide +kernel

def limits120 (g : Byte) : List Byte :=
  be 2 120 ++ [g] ++ be 4 1350000 ++ be 4 1500000 ++ be 2 20000 ++ be 2 40000

/-- Element 120 after step 3. -/
def element120 : Element :=
  { Element.blank with
    state := .active, machine := 1, zone := 4, duty := 24, wear := 31305, rate := 1001760, planAt := 1350000
    limit := 1500000, rateLow := 20000, rateHigh := 40000, flags := 4, due := some 40487, start := 40111
    generation := 7 }

def after120 : State :=
  { put 120 element120 before120 with
    lastFolded := 40111, openInterval := 40112
    queues := before120.queues.set 1 { entries := [{ index := 120, due := 40487 }], revision := 1 } }

/-- Step 6: the stale LIMITS_SET, then the one with generation 8. -/
theorem test_limits_set_stale_then_taken :
    let s := put 120 { element120 with generation := 8, wear := 0 } after120
    sent (after (.limitsSet 3 (limits120 7)) s) 3 = [0x94, 6, 8] ∧
    sent (after (.limitsSet 3 (limits120 8)) s) 3 =
      [0x94, 0] ++ be 4 1350000 ++ be 4 1500000 ++ be 2 20000 ++ be 2 40000 ++ [1] ++ be 4 40495 := by decide +kernel

/-- Table 1-7, rows 2 and 3: after A's vacate, B is refused with VACANT and hears the record's generation (R19). -/
theorem test_table_1_7_vacant :
    let s := after (.elementVacate 1 (be 2 120 ++ [7])) after120
    sent s 1 = [0x91, 0] ++ be 2 120 ++ [7] ∧ sent (after (.hitsAck 3 (be 2 120 ++ [7, 4])) s) 3 = [0x95, 7, 7] ∧
    sent (after (.limitsSet 3 (limits120 7)) s) 3 = [0x94, 7, 7] := by decide +kernel

/-- Step 3, on the counts of M1 zone 4. -/
theorem test_reckon_of_section_1_13 :
    let cells : Vector Half 8 := #v[5800, 1350, 210, 0, 0, 0, 0, 0]
    let weights : Vector Byte 8 := #v[2, 5, 12, 20, 30, 0, 0, 0]
    let r := reckon { element120 with wear := 0, rate := 0, flags := 0, due := none } { cells := cells, clip := false } 0
      weights 3 40111
    rawFigure cells weights = 20870 ∧ r = { element120 with flags := 0 } ∧ newHits r false false = [.rateLow] := by
  decide +kernel

/-- Step 4. -/
theorem test_hits_ack_clears_rate_low :
    let t := after (.hitsAck 3 (be 2 120 ++ [7, 4])) { after120 with
      settings := { after120.settings with roles := #v[16, 4, 0, 10] } }
    sent t 3 = [0x95, 0, 0] ∧ t.elements[(120 : Fin 512)] = { element120 with flags := 0 } := by decide +kernel

/-- Step 5. -/
theorem test_replacement_of_section_1_13 :
    let t := after (.servicePostReplaced 1 (be 2 120 ++ [7, 0, 0, 0] ++ be 4 0)) after120
    sent t 1 = [0xD0, 0] ++ be 2 120 ++ [8] ++ be 4 0 ++ [1] ++ be 4 40495 ++ [0] ∧
    t.elements[(120 : Fin 512)].rate = 1001760 ∧ t.elements[(120 : Fin 512)].start = 40112 ∧
    t.queues[(1 : Fin 4)].entries = [{ index := 120, due := 40495 }] := by decide +kernel

/-- R18 and Table 9-6: a VACANT record carries its generation and zeros; the frame's payload is 44 bytes. -/
theorem test_element_read :
    sent (after (.elementRead 2 [0, 120]) before120) 2 = [0x96, 0, 0, 120, 0, 6] ++ List.replicate 39 0 ∧
    (sent (after (.elementRead 2 [0, 120]) after120) 2).take 12 = [0x96, 0, 0, 120, 1, 7, 0, 1, 4, 24, 0, 0] ∧
    sent (after (.elementRead 2 [2, 0]) after120) 2 = [0x96, 5] := by decide +kernel

/-! ## Tally banks: section 2.10 -/

def held : State :=
  { ready with
    lastFolded := 40111, openInterval := 40113, activeBank := .b, foldState := .foldWait 40112
    engine := .build 3 { machine := 1, windows := Vector.replicate 8 none, queue := [], stamp := 40111, watch := false }
    slots := ready.slots.set 3 (.running { request := .planBuild 1, payload := [1] })
    arbiter := { ready.arbiter with waiting := #v[true, false, false, false, false] }
    bankB := Bank.zero.set 1
      { MachineTally.zero with
        zones := MachineTally.zero.zones.set 4 { cells := #v[0, 0, 65300, 0, 0, 0, 0, 0], clip := false } }
    settings := { Settings.blank with intervalLength := 1, roles := #v[1, 1, 0, 8], bindings := #v[1, 2, 0, 15] } }

/-- Step 5. -/
theorem test_pass_report_saturates :
    let t := after (.passReport 1 [1, 2, 4, 2, 255, 4, 2, 100]) held
    sent t 1 = [0xA0, 0] ++ be 4 40113 ++ [2] ∧ t.bankB[(1 : Fin 4)].zones[(4 : Fin 16)].cells[(2 : Fin 8)] = 65535 ∧
    t.bankB[(1 : Fin 4)].zones[(4 : Fin 16)].clip = true ∧ t.bankA = Bank.zero := by decide +kernel

/-- R25 and Table 2-3: seconds added, a binding that lacks the machine refused. -/
theorem test_run_report :
    let t := after (.runReport 1 [1, 200]) held
    sent t 1 = [0xA1, 0] ++ be 4 40113 ++ [0] ∧ t.bankB[(1 : Fin 4)].runTime = 200 ∧
    sent (after (.runReport 1 [0, 200]) held) 1 = [0xA1, 4] ∧ sent (after (.runReport 1 [1, 0]) held) 1 = [0xA1, 5] := by
  decide +kernel

/-- Steps 3 and 7. -/
theorem test_reckon_now_marks_then_is_absorbed :
    sent (after (.reckonNow 1 []) held) 1 = [0xA2, 0, 1] ++ be 4 40113 ∧
    (after (.reckonNow 1 []) held).pendingTrigger = true ∧
    sent (after (.reckonNow 0 []) { held with foldState := .folding 40112, pendingTrigger := true }) 0 = [0xA2, 0, 2] := by
  decide +kernel

/-- Step 1 (with the banks as before it) and step 6. -/
theorem test_timer_expiry :
    let s : State :=
      { held with foldState := .idle, activeBank := .a, openInterval := 40112, arbiter := Arbiter.reset
                  timer := .running 1 }
    let t := after .intervalTimerExpiry s
    (t.foldState = .foldWait 40112 ∧ t.activeBank = .b ∧ t.openInterval = 40113 ∧ t.timer = .running 120 ∧
      t.arbiter.waiting[(0 : Fin 5)] = true ∧ t.engine = s.engine) ∧
    (after .intervalTimerExpiry { held with pendingTrigger := true }).timer = .expired := by decide +kernel

def foldAt (stage : FoldStage) (s : State) : State :=
  { s with
    foldState := .folding 40112, arbiter := { s.arbiter with waiting := Vector.replicate 5 false }
    slots := Vector.replicate 4 .empty, engine := .fold { FoldRun.begin 40112 s.settings with stage := stage } }

/-- Step 8: the cleared bank, then the held-over swap. -/
theorem test_clear_closed_bank_swaps :
    let s := { foldAt .clearBank held with pendingTrigger := true, lastFolded := 40112, bankA := held.bankB }
    let t := after .clearClosedBank s
    t.foldState = .foldWait 40113 ∧ t.activeBank = .a ∧ t.openInterval = 40114 ∧ t.bankA = Bank.zero ∧
      t.bankB = held.bankB ∧ t.pendingTrigger = false ∧ t.timer = .running 120 ∧
      t.arbiter.waiting[(0 : Fin 5)] = true := by decide +kernel

/-! ## Reckoning: section 3.9 -/

def element37 : Element :=
  { Element.blank with
    state := .active, machine := 1, zone := 4, duty := 24, wear := 1204330, residue := 7, rate := 7936000
    planAt := 1350000, limit := 1500000, rateLow := 20000, rateHigh := 40000, due := some 40120, start := 40090
    generation := 4 }

def element38 : Element :=
  { Element.blank with
    state := .active, kind := .belt, machine := 1, zone := 4, duty := 16, beltRate := 40, wear := 2000000, residue := 3
    rate := 5888000, planAt := 2800000, limit := 3000000, due := some 40150, start := 40001 }

def element200 : Element :=
  { Element.blank with
    state := .active, machine := 2, zone := 7, duty := 16, wear := 4294960000, residue := 9, rate := 2560000
    planAt := 4000000000, limit := 4200000000, flags := 3, limitLogged := true, due := some 40111, start := 39000 }

def counts : Bank :=
  (Bank.zero.set 1
    { MachineTally.zero with
      zones := MachineTally.zero.zones.set 4 { cells := #v[5800, 1350, 210, 0, 0, 0, 0, 0], clip := false }
      runTime := 900 }).set 2
    { MachineTally.zero with
      zones := MachineTally.zero.zones.set 7 { cells := #v[5000, 0, 0, 0, 0, 0, 0, 0], clip := false } }

def worked : State :=
  { put 37 element37 (put 38 element38 (put 200 element200 ready)) with
    lastFolded := 40111, openInterval := 40113, activeBank := .b, bankA := counts
    settings :=
      { Settings.blank with
        weights := #v[2, 5, 12, 20, 30, 0, 0, 0], modes := #v[.checked, .checked, .checked, .discard] }
    queues := (ready.queues.set 1
      { entries := [{ index := 37, due := 40120 }, { index := 38, due := 40150 }], revision := 8 }).set 2
      { entries := [{ index := 200, due := 40111 }], revision := 0 } }

/-- Table 3-11. -/
theorem test_element_step_37 :
    let t := after .elementStep (foldAt (.step 37) worked)
    t.elements[(37 : Fin 512)] = { element37 with wear := 1235635, rate := 7945760, due := some 40121 } ∧
    t.queues[(1 : Fin 4)] =
      { entries := [{ index := 37, due := 40121 }, { index := 38, due := 40150 }], revision := 9 } ∧
    t.attention = ready.attention ∧
    t.engine = .fold { FoldRun.begin 40112 worked.settings with
      stage := .step 38, credited := 1, moved := #v[false, true, false, false] } := by decide +kernel

/-- Tables 3-12 and 3-13. -/
theorem test_reckon_38_and_200 :
    let weights : Vector Byte 8 := #v[2, 5, 12, 20, 30, 0, 0, 0]
    reckon element38 counts[(1 : Fin 4)].zones[(4 : Fin 16)] 900 weights 3 40112 =
      { element38 with wear := 2023120, rate := 5891840, due := some 40155 } ∧
    reckon element200 counts[(2 : Fin 4)].zones[(7 : Fin 16)] 0 weights 3 40112 =
      { element200 with wear := 4294967295, due := some 40112 } := by decide +kernel

/-- Table 3-14, stage 1. -/
theorem test_fold_completion_stores :
    let s :=
      { foldAt .store worked with
        windows := worked.windows.set 3 (worked.windows[3].set 2 (some { start := 1, finish := 40112, capacity := 4 }))
        engine := .fold { FoldRun.begin 40112 worked.settings with
          stage := .store, credited := 3, rateOnly := 1, skipped := 2 } }
    let t := after .foldCompletion s
    t.lastFolded = 40112 ∧ t.windows[(3 : Fin 4)][(2 : Fin 8)] = none ∧
    t.summary = { interval := 40112, credited := 3, rateOnly := 1, skipped := 2, newHits := 0, saturatedCells := 0
                  discarded := #v[false, false, false, true] } ∧
    t.engine = .fold { FoldRun.begin 40112 worked.settings with
      stage := .markStale, credited := 3, rateOnly := 1, skipped := 2, expired := #v[false, false, false, true] } := by
  decide +kernel

/-- Table 3-14, stage 2: M1 and M3 go STALE, M2 stays NONE, and the PLAN ports bound to them hear of it. -/
theorem test_mark_plans_stale :
    let s :=
      { foldAt .markStale worked with
        plans := (worked.plans.set 1 { Plan.none with state := .fresh }).set 3 { Plan.none with state := .fresh }
        settings := { worked.settings with roles := #v[0x1F, 7, 8, 8], bindings := #v[15, 15, 2, 4] }
        engine := .fold { FoldRun.begin 40112 worked.settings with
          stage := .markStale, moved := #v[false, true, true, false], expired := #v[false, false, false, true] } }
    let t := after .markPlansStale s
    t.plans[(1 : Fin 4)].state = .stale ∧ t.plans[(2 : Fin 4)].state = .none ∧ t.plans[(3 : Fin 4)].state = .stale ∧
    t.attention.map (fun a => a.pending) = #v[0x200, 0, 0x200, 0] := by decide +kernel

/-- Tables 3-15 and 3-16, and the clamp of the target. -/
theorem test_rate_at_its_edges :
    smooth 0 1 2 = 64 ∧ smooth 64 1 2 = 112 ∧ smooth 175 1 2 = 195 ∧ smooth 252 1 2 = 253 ∧ smooth 253 1 2 = 253 ∧
    smooth 20 0 2 = 15 ∧ smooth 15 0 2 = 11 ∧ smooth 2 0 2 = 1 ∧ smooth 1 0 2 = 0 ∧
    smooth 0 20000000 0 = 4294967295 := by decide +kernel

/-- Section 3.9.5: the cap of the quotient and of the range. -/
theorem test_projection_caps :
    project 0 1 300 40112 = some 105647 ∧ project 0 256 400 4294967000 = some 4294967295 ∧
    project 5 1 0 7 = none ∧ project 5 0 9 7 = none ∧ project 9 1 9 7 = some 7 := by decide +kernel

/-! ## Hit flags and attention: sections 4.7 and 10.5 -/

/-- Element 52 before the fold of 50,004. -/
def element52 : Element :=
  { Element.blank with
    state := .active, machine := 2, zone := 3, duty := 16, wear := 923500, rate := 1536000, planAt := 900000
    limit := 910000, rateLow := 5000, rateHigh := 12000, flags := 9, limitLogged := true, due := some 50003
    start := 1, generation := 11 }

def fold52 : State :=
  let s : State :=
    { put 52 element52 ready with
      lastFolded := 50003, openInterval := 50005, activeBank := .b
      bankA := Bank.zero.set 2
        { MachineTally.zero with
          zones := MachineTally.zero.zones.set 3 { cells := #v[4000, 0, 0, 0, 0, 0, 0, 0], clip := false } }
      settings :=
        { Settings.blank with
          shifts := #v[3, 3, 0, 3], bindings := #v[4, 4, 4, 15]
          policies := #v[.none, .immediate, .deferred, .summary] }
      foldState := .folding 50004 }
  { s with engine := .fold { FoldRun.begin 50004 s.settings with stage := .step 52 } }

/-- Fold of 50,004: LIMIT and RATE_LOW are new hits, nothing is appended, SP1 alone hears of them at the step. -/
theorem test_element_step_new_hits :
    let t := after .elementStep fold52
    t.elements[(52 : Fin 512)].flags = 0x0F ∧ t.elements[(52 : Fin 512)].wear = 927500 ∧
    t.elements[(52 : Fin 512)].head = none ∧
    t.attention.map (fun a => a.pending) = #v[0, 0x14, 0, 0] := by decide +kernel

/-- Table 4-5, fold of 50,004: what each policy receives at completion. -/
theorem test_hand_deferred_hits :
    let tally := (DeferredTally.empty.add 2 52 .limit).add 2 52 .rate
    let s := { fold52 with
      engine := .fold { FoldRun.begin 50004 fold52.settings with stage := .handHits, tally := tally } }
    let t := after .handDeferredHits s
    t.attention.map (fun a => a.pending) = #v[0, 0x400, 0x414, 0x400] ∧
    t.attention[(2 : Fin 4)].summaries[(0 : Fin 4)] = { count := 1, lowest := some 52 } := by decide +kernel

/-- SP0's record of Table 10-4 after the next fold's LIMIT hit. -/
def line10 : State :=
  { ready with
    settings := { Settings.blank with enables := #v[0x064, 0, 0, 0] }
    attention := ready.attention.set 0
      { PortAttention.clear with
        pending := 0x404, line := true
        summaries := PortAttention.clear.summaries.set 0 { count := 3, lowest := some 41 } } }

/-- Table 10-4: ATTN_CLEAR returns LIMIT 3, 41 and releases the line. -/
theorem test_attn_clear :
    let t := after (.attnClear 0 [0x04, 0x04]) line10
    sent t 0 = [0xE9, 0, 0, 3, 1, 0, 41, 0, 0] ∧ t.attention[(0 : Fin 4)] = PortAttention.clear := by decide +kernel

/-- R174: the sets, the line, two pending causes, LIMIT with its summary. -/
theorem test_attn_read :
    sent (after (.attnRead 0 []) line10) 0 =
      [0xE8, 0, 0x04, 0x04, 0x00, 0x64, 1, 2, 2, 0, 3, 1, 0, 41, 10] := by decide +kernel

/-- R176: disabling every pending cause releases the line. -/
theorem test_attn_enable :
    let t := after (.attnEnable 0 [0x00, 0x20]) line10
    sent t 0 = [0xEA, 0, 0x00, 0x20, 0x04, 0x04, 0] ∧ t.attention[(0 : Fin 4)].line = false ∧
    sent (after (.attnEnable 0 [0x08, 0x00]) line10) 0 = [0xEA, 5] := by decide +kernel

/-! ## Due queues: section 5.6 -/

def roller9 : Element :=
  { Element.blank with
    state := .active, machine := 2, zone := 1, wear := 306250, rate := 1600000, limit := 310000, planAt := 310000
    due := some 61201, start := 5, generation := 1 }

def belt17 : Element :=
  { Element.blank with
    state := .active, kind := .belt, machine := 2, zone := 2, wear := 710000, rate := 2560000, limit := 750000
    planAt := 750000, due := some 61204, start := 5, generation := 2 }

def roller23 : Element :=
  { Element.blank with
    state := .suspended, machine := 2, zone := 2, wear := 50000, rate := 256000, limit := 60000, planAt := 60000
    due := some 61230, start := 5, generation := 3 }

def entry (e : ElementIx) (d : Interval) : QueueEntry := { index := e, due := d }

/-- Table 5-8. -/
def queue2 (entries : List QueueEntry) (revision : Half) : State :=
  { put 9 roller9 (put 17 belt17 (put 23 roller23 ready)) with
    lastFolded := 61200, openInterval := 61201, plans := ready.plans.set 2 { Plan.none with state := .stale }
    queues := ready.queues.set 2 { entries := entries, revision := revision } }

/-- Table 5-7: the notices of elements 4, 9, 30 and 41. -/
theorem test_notices_of_the_fold :
    let q : DueQueue := { entries := [entry 9 61201, entry 4 61204, entry 17 61204, entry 41 61219], revision := 118 }
    ((((q.place 4 (some 61203)).place 9 (some 61201)).place 30 (some 61219)).place 41 none) =
      { entries := [entry 9 61201, entry 4 61203, entry 17 61204, entry 30 61219], revision := 121 } := by decide

/-- Table 5-9, first row. -/
theorem test_replacement_moves_its_entry :
    let s := queue2 [entry 9 61201, entry 4 61203, entry 17 61204, entry 30 61219] 121
    (after (.servicePostReplaced 0 [0, 9, 1, 0, 0, 0, 0, 0, 0, 0]) s).queues[(2 : Fin 4)] =
      { entries := [entry 4 61203, entry 17 61204, entry 30 61219, entry 9 61250], revision := 122 } := by
  decide +kernel

/-- Table 5-9, second row: the due field is kept. -/
theorem test_suspend_removes_its_entry :
    let t := after (.elementSuspend 0 [0, 17, 2]) (queue2 [entry 4 61203, entry 17 61204, entry 30 61219] 122)
    t.queues[(2 : Fin 4)] = { entries := [entry 4 61203, entry 30 61219], revision := 123 } ∧
    sent t 0 = [0x92, 0, 2, 1] ++ be 4 61204 := by decide +kernel

/-- Table 5-9, third row. -/
theorem test_resume_places_its_entry :
    let t := after (.elementResume 0 [0, 23, 3]) (queue2 [entry 4 61203, entry 30 61219, entry 9 61250] 123)
    t.queues[(2 : Fin 4)] =
      { entries := [entry 4 61203, entry 23 61210, entry 30 61219, entry 9 61250], revision := 124 } ∧
    sent t 0 = [0x93, 0, 1, 1] ++ be 4 61210 := by decide +kernel

/-- Table 5-8 as QUEUE_READ returns it from position 2. -/
theorem test_queue_read :
    let s := queue2 [entry 9 61201, entry 4 61203, entry 17 61204, entry 30 61219] 121
    sent (after (.queueRead 1 [2, 0, 2]) s) 1 =
      [0xB8, 0, 2] ++ be 2 121 ++ be 2 4 ++ be 2 2 ++ [2] ++ be 2 17 ++ be 4 61204 ++ be 2 30 ++ be 4 61219 := by
  decide +kernel

/-! ## Windows and plans: section 6.9 -/

def window (start finish : Interval) (capacity : Byte) : Option Window :=
  some { start := start, finish := finish, capacity := capacity }

def windows1 : Vector (Option Window) 8 :=
  #v[none, window 70403 70405 2, none, window 70410 70412 2, none, none, window 70411 70412 1, none]

/-- Table 6-8. -/
def snapshot1 : List QueueEntry :=
  [entry 12 70399, entry 5 70405, entry 31 70408, entry 8 70409, entry 2 70412, entry 19 70412, entry 44 70412,
   entry 50 70412, entry 3 70413, entry 60 70430, entry 71 70555]

def console : State :=
  { ready with
    lastFolded := 70400, openInterval := 70401, windows := ready.windows.set 1 windows1
    queues := ready.queues.set 1 { entries := snapshot1, revision := 11 }
    settings := { Settings.blank with roles := #v[0x17, 0x17, 0x17, 8], discardTimes := #v[.long, .long, .long, .short] } }

/-- Table 6-7, the second and the fourth request. -/
theorem test_window_set :
    let t := after (.windowSet 3 ([1, 3] ++ be 4 70410 ++ be 4 70412 ++ [40])) { console with windows := ready.windows }
    sent t 3 = [0xC0, 1, 1, 3] ++ be 4 70410 ++ be 4 70412 ++ [32, 0, 0] ∧
    t.windows[(1 : Fin 4)][(3 : Fin 8)] = window 70410 70412 32 ∧
    sent (after (.windowSet 3 ([1, 6] ++ be 4 70411 ++ be 4 70400 ++ [1])) console) 3 = [0xC0, 5] := by decide +kernel

/-- R102: a HELD slot dropped, a FRESH plan made STALE. -/
theorem test_window_drop :
    let t := after (.windowDrop 3 [1, 3]) { console with plans := console.plans.set 1 { Plan.none with state := .fresh } }
    sent t 3 = [0xC1, 0, 1, 3, 1, 2] ∧ t.windows[(1 : Fin 4)][(3 : Fin 8)] = none ∧
    t.attention[(3 : Fin 4)].pending = 0x200 ∧ sent (after (.windowDrop 3 [1, 0]) console) 3 = [0xC1, 0, 1, 0, 0, 0] := by
  decide +kernel

/-- Table 6-9. -/
theorem test_placement :
    placeAll windows1 snapshot1 =
      { lists := #v[[], [entry 5 70405, entry 31 70408], [], [entry 2 70412, entry 19 70412], [], [],
          [entry 44 70412], []]
        unplaced := [entry 12 70399, entry 8 70409, entry 50 70412], overflow := 0, beyond := 3 } := by decide +kernel

def build1 : BuildRun := { machine := 1, windows := windows1, queue := snapshot1, stamp := 70400, watch := false }

def copy1 : RequestCopy := { request := .planBuild 1, payload := [1] }

/-- Section 6.9 and Table 8-6, step 7: granted at once, the snapshot taken. -/
theorem test_plan_build :
    let t := after (.planBuild 3 [1]) console
    sent t 3 = [0xC2, 2, 2] ∧ t.engine = .build 3 build1 ∧ t.slots[(3 : Fin 4)] = .running copy1 ∧
    sent (after (.historyRead 3 [0, 5, 0]) t) 3 = [0xD1, 3, 0x42, 2] := by decide +kernel

def building : State :=
  { console with slots := console.slots.set 3 (.running copy1), engine := .build 3 build1 }

/-- Section 6.9 and Table 8-6, step 5: FRESH, 5, 3, 3; RESULT at SP3; 0.5 s. -/
theorem test_plan_build_completion :
    let t := after .planBuildCompletion building
    t.slots[(3 : Fin 4)] = .ready copy1 (.plan .fresh 5 3 3) 1 ∧ t.plans[(1 : Fin 4)].state = .fresh ∧
    t.attention.map (fun a => a.pending) = #v[0, 0, 0, 0x40] ∧ t.engine = .idle := by decide +kernel

/-- Table 6-10, UNPLACED, and slot 0. -/
theorem test_plan_read :
    let t := after .planBuildCompletion building
    sent (after (.planRead 0 [1, 8, 0]) t) 0 =
      [0xC3, 0, 1, 1] ++ be 4 70400 ++ [3, 3] ++ be 2 12 ++ be 4 70399 ++ be 2 8 ++ be 4 70409 ++ be 2 50 ++
        be 4 70412 ∧
    sent (after (.planRead 0 [1, 0, 0]) t) 0 = [0xC3, 0, 1, 1] ++ be 4 70400 ++ [0, 0] := by decide +kernel

/-- Table 8-6, steps 6 and 9. -/
theorem test_discard_and_collect :
    let t := { console with slots := console.slots.set 3 (.ready copy1 (.plan .fresh 6 1 3) 1) }
    (after (.discardTimerExpiry 3) t).slots[(3 : Fin 4)] = .empty ∧
    (after (.discardTimerExpiry 3) t).attention.map (fun a => a.pending) = #v[0, 0, 0, 0x80] ∧
    sent (after (.planBuild 3 [1]) t) 3 = [0xC2, 0, 1, 0, 6, 0, 1, 0, 3] ∧
    (after (.planBuild 3 [1]) t).slots[(3 : Fin 4)] = .empty := by decide +kernel

/-! ## Service posts and history: section 7.5 -/

def stamped (i : Interval) : HistoryRecord := { interval := i, generation := 5, wear := 1, body := .inspected 0 }

def block (n : Nat) : Vector HistoryRecord 6 := Vector.ofFn fun k : Fin 6 => stamped (BitVec.ofNat 32 (n * 10 + k.val))

def chained (machine : MachineId) (generation : Generation) (head : BlockIx) : Element :=
  { Element.blank with state := .active, machine := machine, generation := generation, head := some head }

/-- Table 7-9: block 200 alone is FREE; the blocks of no named chain stand for other elements' records. -/
def pool79 : HistoryPool where
  alloc := ((((((((Vector.replicate 256 (AllocEntry.last 5)).set 200 .free).set 14 (.next 15)).set 15 (.last 5)).set 33
    (.last 5)).set 40 (.next 41)).set 41 (.next 42)).set 42 (.next 43)).set 43 (.last 4)
  blocks := (HistoryPool.blank.blocks.set 14 (block 14)).set 15 (block 15)

def shared : State :=
  { put 77 (chained 0 5 14) (put 90 (chained 0 2 33) (put 91 (chained 2 9 40) ready)) with
    pool := pool79, lastFolded := 52309, openInterval := 52310
    settings := { Settings.blank with bindings := #v[1, 5, 4, 8] } }

/-- Steps 1 and 2 on the chain of element 91. -/
theorem test_append_fills_then_recycles :
    let one := (shared.appendHistory 91 (stamped 1)).1
    let two := (one.appendHistory 91 (stamped 2)).1
    one.pool.alloc[(43 : Fin 256)] = .last 5 ∧ two.pool.alloc[(43 : Fin 256)] = .next 40 ∧
    two.pool.alloc[(40 : Fin 256)] = .last 0 ∧ two.elements[(91 : Fin 512)].head = some 41 ∧
    (chainRecords two.pool (some 41)).length = 19 ∧ two.pool.alloc[(200 : Fin 256)] = .free := by decide +kernel

/-- Step 3. -/
theorem test_replacement_takes_the_lowest_free_block :
    let t := after (.servicePostReplaced 0 [0, 77, 5, 0, 3, 0, 0, 0, 0, 0]) shared
    t.pool.alloc[(15 : Fin 256)] = .next 200 ∧ t.pool.alloc[(200 : Fin 256)] = .last 0 ∧
    (chainRecords t.pool (some 14)).length = 13 ∧ t.elements[(77 : Fin 512)].generation = 6 := by decide +kernel

/-- The pool of section 7.5 without a FREE block. -/
def sharedFull : State := { shared with pool := { pool79 with alloc := pool79.alloc.set 200 (.last 0) } }

/-- Step 4: the record of element 90 is dropped, with HISTORY_LOST at the ports bound to M0. -/
theorem test_inspection_is_dropped :
    let t := after (.servicePostInspected 0 [0, 90, 2, 1, 12, 0, 0, 0, 0, 0]) sharedFull
    sent t 0 = [0xD0, 0, 0, 90, 2, 0, 0, 0, 0, 0, 0, 0, 0, 0, 1] ∧ t.pool.alloc[(33 : Fin 256)] = .last 5 ∧
    t.attention.map (fun a => a.pending) = #v[0x100, 0x100, 0, 0] := by decide +kernel

/-- Step 5 (with the chain as the table's third row has it: the walk starts at 40 here). -/
theorem test_vacate_frees_the_chain :
    let t := after (.elementVacate 2 [0, 91, 9]) shared
    t.pool.alloc[(40 : Fin 256)] = .free ∧ t.pool.alloc[(43 : Fin 256)] = .free ∧
    t.pool.alloc[(33 : Fin 256)] = .last 5 ∧ t.elements[(91 : Fin 512)].state = .vacant ∧
    t.elements[(91 : Fin 512)].head = none ∧ sent t 2 = [0x91, 0, 0, 91, 9] := by decide +kernel

/-- R127: wear corrected, residue 0, generation kept; the record has both wears. -/
theorem test_correction :
    let t := after (.servicePostCorrected 0 ([0, 9, 1, 1, 6, 1] ++ be 4 250000))
      (queue2 [entry 9 61201, entry 30 61219] 121)
    t.elements[(9 : Fin 512)].wear = 250000 ∧ t.elements[(9 : Fin 512)].due = some 61210 ∧
    t.elements[(9 : Fin 512)].generation = 1 ∧ t.queues[(2 : Fin 4)].entries = [entry 9 61210, entry 30 61219] ∧
    t.pool.blocks[(0 : Fin 256)][(0 : Fin 6)] =
      { interval := 61201, generation := 1, wear := 306250, body := .corrected 250000 6 } := by decide +kernel

def looking (request : LongRequest) (payload : List Byte) (s : State) : State :=
  { s with
    slots := s.slots.set 0 (.running { request := request, payload := payload }), engine := .lookup 0 }

/-- Table 7-11's shape, before the replacement: 12 records in 2 blocks, skip 6 returns the six of block 15. -/
theorem test_history_read_completion :
    (after .historyReadCompletion (looking (.historyRead 77 6) [0, 77, 6] shared)).slots[(0 : Fin 4)] =
      .ready { request := .historyRead 77 6, payload := [0, 77, 6] }
        (.history .active 5 12 2 6 ((List.range 6).map fun k => stamped (BitVec.ofNat 32 (150 + k)))) 32 := by
  decide +kernel

/-- R154: which elements of M2 with PLAN or LIMIT set match after index 51, and the argument check of R153. -/
theorem test_element_find :
    let l := (put 52 element52 worked).elements
    findMatches l (some 2) 3 none 200 = true ∧ findMatches l (some 2) 3 (some 51) 52 = true ∧
    findMatches l (some 2) 3 (some 52) 52 = false ∧ findMatches l (some 1) 3 none 52 = false ∧
    findMatches l none 4 none 52 = false ∧ findMatches l none 0x1F none 37 = false ∧
    sent (after (.elementFind 0 [2, 0, 0xFF, 0xFF]) worked) 0 = [0xD8, 5] ∧
    sent (after (.elementFind 0 [4, 3, 0xFF, 0xFF]) worked) 0 = [0xD8, 2, 2] := by decide +kernel

/-! ## The arbiter: Table 8-5 -/

theorem test_grants_of_table_8_5 :
    let tiers : Vector Tier 5 := #v[.high, .low, .low, .low, .low]
    let at_ (high : HighPlace) (low : Requester) (w : Vector Bool 5) : Arbiter :=
      { high := high, low := low, waiting := w }
    (at_ .low (.slot 2) #v[true, true, true, false, true]).choose tiers =
      some (.fold, .requester .fold, .slot 2) ∧
    (at_ (.requester .fold) (.slot 2) #v[true, true, true, true, true]).choose tiers =
      some (.slot 3, .low, .slot 3) ∧
    (at_ .low (.slot 3) #v[true, true, true, true, false]).choose tiers = some (.fold, .requester .fold, .slot 3) ∧
    (at_ (.requester .fold) (.slot 3) #v[false, true, true, true, false]).choose tiers =
      some (.slot 0, .low, .slot 0) ∧
    (at_ .low (.slot 2) #v[false, false, false, false, false]).choose tiers = none ∧
    (at_ (.requester .fold) (.slot 2) #v[true, true, true, true, true]).choose #v[.high, .low, .high, .low, .low] =
      some (.slot 1, .requester (.slot 1), .slot 2) := by decide

/-- Stage 5: the second release of Table 8-5. -/
theorem test_release_grants_slot_3 :
    let s := { foldAt .release console with
      foldState := .foldWait 40113
      slots := console.slots.set 3 (.waiting copy1)
      arbiter := { high := .requester .fold, low := .slot 2, waiting := #v[true, false, false, false, true] } }
    let t := after .releaseEngine s
    t.engine = .build 3 build1 ∧ t.slots[(3 : Fin 4)] = .running copy1 ∧
    t.arbiter = { high := .low, low := .slot 3, waiting := #v[true, false, false, false, false] } := by decide +kernel

/-! ## Links: section 9.8 -/

/-- Step 5: RECKON_NOW has CHECK 0xDE; its END byte takes the request, which SP1 may not send. -/
theorem test_reckon_now_frame :
    frameBytes 0x22 [] = [0xD2, 0x22, 0, 0xDE, 0x2D] ∧
    sent (after (.linkByte 1 0x2D)
      { before120 with links := ready.links.set 1 { Link.reset with rx := .endMark 0x22 [] 0 } }) 1 = [0xA2, 4] := by
  decide +kernel

/-- Step 4: a wrong CHECK. -/
theorem test_check_fails :
    sent (after (.linkByte 1 0x2D)
      { before120 with links := ready.links.set 1 { Link.reset with rx := .endMark 0x22 [] 1 } }) 1 = [0xFF, 0x0B, 3] := by
  decide +kernel

/-- R159: eight clocks send the next byte of the reply, then fill. -/
theorem test_link_byte_sends :
    let s := { ready with links := ready.links.set 2 { Link.reset with tx := .sending [1, 2] 1 } }
    (after (.linkByte 2 0xFF) s).links[(2 : Fin 4)] = { sel := .low, sdo := some 2, rx := .hunt, tx := .fill } ∧
    (after (.linkByte 2 0xD2) ready).links[(2 : Fin 4)] = { sel := .low, sdo := some 0xFF, rx := .kind, tx := .fill } := by
  decide +kernel

/-- R163: DENIED as a frame, with the KIND 0xA2 and its CHECK. -/
theorem test_reply_ready :
    sent (after (.replyReady 1)
      (withLink 1 { Link.reset with tx := .preparing { kind := 0xA2, payload := [4] } })) 1 =
      [0xD2, 0xA2, 1, 4, 0x59, 0x2D] ∧
    faultOf (.replyReady 1) ready = some .noReplyPreparing := by decide +kernel

/-- R161, R162 and R165. -/
theorem test_link_rows :
    sent (after (.frameError 0 .length) State.reset) 0 = [0xFF, 0x0B, 1] ∧
    sent (after (.unknown 0 0x17) State.reset) 0 = [0xFF, 0x0C, 0x17] ∧
    (after (.selHigh 0) (withLink 0 { sel := .low, sdo := some 1, rx := .kind, tx := .sending [1, 2] 1 })).links[(0 : Fin 4)] =
      { sel := .high, sdo := none, rx := .hunt, tx := .sending [1, 2] 1 } := by decide +kernel

/-- R152 and R177: a RUNNING slot cancelled, the port's record cleared. -/
theorem test_port_reset :
    let t := after (.portReset 3 []) building
    sent t 3 = [0xE0, 0, 2] ∧ t.slots[(3 : Fin 4)] = .empty ∧ t.engine = .idle ∧
    (after (.portReset 0 []) line10).attention[(0 : Fin 4)] = PortAttention.clear := by decide +kernel

/-! ## Settings, start-up and supply -/

/-- R56: the mode stored; the reply carries the fold state FOLD_WAIT. -/
theorem test_mode_set :
    let s := { held with settings := Settings.blank }
    let t := after (.modeSet 0 [2, 1]) s
    sent t 0 = [0xB0, 0, 2, 1, 1] ∧ t.settings.modes[(2 : Fin 4)] = .unchecked ∧
    sent (after (.modeSet 0 [2, 3]) s) 0 = [0xB0, 5] := by decide +kernel

/-- R179: a length above 240 is clamped; the last ADMIN is not given up; machine modes are not written here. -/
theorem test_settings_write :
    let s := { ready with settings := { Settings.blank with roles := #v[16, 1, 1, 1] } }
    sent (after (.settingsWrite 0 [1, 0, 1, 0]) s) 0 = [0xF2, 1, 1, 0, 0, 240] ∧
    sent (after (.settingsWrite 0 [5, 0, 0, 1]) s) 0 = [0xF2, 5] ∧
    sent (after (.settingsWrite 0 [4, 0, 0, 1]) s) 0 = [0xF2, 5] ∧
    sent (after (.settingsWrite 1 [1, 0, 0, 9]) s) 1 = [0xF2, 4] := by decide +kernel

/-- R180 and Table 11-2: default enable set and tier of FOLD. -/
theorem test_settings_read :
    sent (after (.settingsRead 2 [8, 3]) ready) 2 = [0xF1, 0, 8, 3, 0x07, 0xFF] ∧
    sent (after (.settingsRead 2 [10, 0]) ready) 2 = [0xF1, 0, 10, 0, 0, 0] ∧
    sent (after (.settingsRead 2 [10, 5]) ready) 2 = [0xF1, 5] := by decide +kernel

/-- R184 on a blank part just READY: open 1, F 0, no closed interval, timer RUNNING with 900 s. -/
theorem test_status_read :
    sent (after (.statusRead 0 []) ready) 0 =
      [0xF0, 0] ++ be 4 1 ++ be 4 0 ++ [0, 0, 0, 0, 0] ++ [0, 0, 0, 1] ++ be 2 900 ++ [0, 0] ++ be 4 0 ++
        List.replicate 8 0 ++ [0, 0] ++ [0, 0, 0] := by decide +kernel

/-- R181: origins, STARTING, and RESTART without ADMIN. -/
theorem test_start_up :
    (after (.restart 2 []) ready).origin = .port 2 ∧ (after (.restart 2 []) ready).phase = .starting ∧
    (after .resetLine ready).origin = .line ∧ (after .powerUp ready).origin = .power ∧
    sent (after (.restart 0 []) State.reset) 0 = [0xF3, 0x0A] ∧
    sent (after (.restart 1 []) before120) 1 = [0xF3, 4] := by decide +kernel

/-- The allocation entries of Table 11-3. -/
def broken : Vector AllocEntry 256 :=
  ((((((((HistoryPool.blank.alloc.set 5 (.next 9)).set 9 (.next 20)).set 31 (.last 1)).set 2
    (.next 3)).set 3 (.next 4)).set 4 (.next 6)).set 6 (.next 8)).set 8 (.last 0))

/-- Table 11-3: 9 is closed as LAST(6) for element 12, element 40 loses its head, element 77 keeps four blocks, 31 and 8
are not visited. -/
theorem test_chain_repair :
    let start : Repair := { alloc := broken, visited := Vector.replicate 256 false, dropped := [] }
    let walk := repairRecord (repairRecord (repairRecord start 12 (chained 0 1 5)) 40 (chained 0 1 9)) 77 (chained 0 1 2)
    walk.alloc[(5 : Fin 256)] = .next 9 ∧ walk.alloc[(9 : Fin 256)] = .last 5 ∧ walk.alloc[(6 : Fin 256)] = .last 5 ∧
    walk.dropped = [40] ∧ walk.visited[(31 : Fin 256)] = false ∧ walk.visited[(8 : Fin 256)] = false ∧
    walk.visited[(6 : Fin 256)] = true := by decide +kernel

/-- R183 and R34: STARTED everywhere, SUPPLY with an asserted input, the timer restarted, interval F + 1 open. -/
theorem test_enter_ready :
    let t := after .enterReady { State.reset with lastFolded := 7, supplyPin := .asserted }
    t.attention.map (fun a => a.pending) = #v[3, 3, 3, 3] ∧ t.timer = .running 1800 ∧ t.openInterval = 8 ∧
    t.supply = .asserted ∧ t.foldState = .idle := by decide +kernel

/-- Table 11-4, the assertions before and during the fold. -/
theorem test_supply_events :
    let s : State := { ready with lastFolded := 80004, openInterval := 80005 }
    let t := after .supplyAssertion s
    let u := after .supplyAssertion (after .supplyDeassertion t)
    t.openInterval = 80006 ∧ t.foldState = .folding 80005 ∧ t.attention.map (fun a => a.pending) = #v[1, 1, 1, 1] ∧
    u.pendingTrigger = true ∧ u.supply = .asserted ∧
    sent (after (.passReport 0 [0, 1, 0, 0, 1]) { u with settings := { u.settings with supplyPolicy := .freeze } }) 0 =
      [0xA0, 9] := by decide +kernel

/-- Log 4: own events that do not arise. -/
theorem test_own_events_stop :
    faultOf .elementStep ready = some .noElementStep ∧ faultOf .foldCompletion ready = some .stageOutOfTurn ∧
    faultOf .enterReady ready = some .notInStartUp ∧ faultOf .intervalTimerExpiry State.reset = some .timerNotRunning ∧
    faultOf (.discardTimerExpiry 0) ready = some .noHeldResult ∧ faultOf .planBuildCompletion ready = some .noPlanBuild := by
  decide +kernel

/-! ## Witnesses: for each obligation with hypotheses, concrete cases that meet them, clause by clause -/

/-- No element, no requester waiting. -/
theorem nothing_waits_ready : ready.nothingWaits := by unfold State.nothingWaits; decide +kernel

theorem witness_StepRunsTheFrontCommand :
    { ready with pending := [.statusRead 0 [], .powerUp] }.pending = .statusRead 0 [] :: [.powerUp] := rfl

/-- A port whose slot holds a result about to be discarded. -/
def readySlot (n : Nat) (s : State) : State :=
  { s with slots := s.slots.set 2 (.ready copy1 (.plan .fresh 5 3 3) n) }

theorem witness_EmptyQueueStepIsHalfASecond :
    (State.reset.pending = [] ∧ State.reset.phase = .starting) ∧
    (ready.pending = [] ∧ ready.phase = .ready ∧ ready.timer = .running 1800) ∧
    (∀ (p : Port) c r n, ready.slots[p] ≠ .ready c r n) ∧
    ((readySlot 2 ready).pending = [] ∧ (readySlot 2 ready).slots[(2 : Fin 4)] = .ready copy1 (.plan .fresh 5 3 3) 2) ∧
    { ready with timer := .running 1 }.timer = .running 1 ∧
    ((readySlot 1 { ready with timer := .expired }).timer = .expired ∧
      (readySlot 1 ready).slots[(2 : Fin 4)] = .ready copy1 (.plan .fresh 5 3 3) 1 ∧
      (readySlot 1 ready).slots[(0 : Fin 4)] = .empty) ∧
    (let s : State := { readySlot 1 held with timer := .running 1 }
     s.pending = [] ∧ s.phase = .ready ∧ s.foldState ≠ .idle ∧ s.slots[(2 : Fin 4)] = .ready copy1 (.plan .fresh 5 3 3) 1 ∧
      s.slots[(0 : Fin 4)] = .empty) := by
  refine ⟨by decide, by decide, ?_, by decide, rfl, by decide, by decide⟩
  intro p c r n h
  have empty : ∀ q : Port, ready.slots[q] = .empty := by decide
  rw [empty p] at h
  cases h

theorem witness_ElementDefineWritesTheRecord :
    before120.admits 1 .service 1 ∧
    (defineArgs define120).map (fun a => (a.index, a.machine)) = some (120, 1) ∧
    before120.elements[(120 : Fin 512)].state = .vacant ∧ before120.pool.alloc[(0 : Fin 256)] = .free ∧
    ∀ b : BlockIx, { before120 with pool := { pool79 with alloc := Vector.replicate 256 (.last 0) } }.pool.alloc[b] ≠
      .free :=
  ⟨⟨rfl, by decide, by decide⟩, by decide, by decide +kernel, by decide +kernel, by decide +kernel⟩

theorem witness_ElementVacateEndsTheTenancy :
    shared.mayModify 2 .service 91 9 ∧ tenancyArgs [0, 91, 9] = some (91, 9) :=
  ⟨⟨rfl, by decide +kernel, by decide +kernel, by decide +kernel, by decide +kernel⟩, by decide⟩

theorem witness_SuspendAndResumeMoveTheElement :
    let s := queue2 [entry 17 61204] 1
    s.mayModify 0 .service 17 2 ∧ tenancyArgs [0, 17, 2] = some (17, 2) ∧ s.elements[(17 : Fin 512)].state = .active ∧
    s.mayModify 0 .service 23 3 ∧ tenancyArgs [0, 23, 3] = some (23, 3) ∧
    s.elements[(23 : Fin 512)].state = .suspended :=
  ⟨⟨rfl, by decide, by decide +kernel, by decide +kernel, by decide +kernel⟩, by decide, by decide +kernel,
    ⟨rfl, by decide, by decide +kernel, by decide +kernel, by decide +kernel⟩, by decide, by decide +kernel⟩

theorem witness_LimitsSetStoresAndReprojects :
    after120.mayModify 3 .plan 120 7 ∧
    limitsArgs (limits120 7) =
      some (120, 7, { planAt := 1350000, limit := 1500000, rateLow := 20000, rateHigh := 40000 }) :=
  ⟨⟨rfl, by decide, by decide +kernel, by decide +kernel, by decide +kernel⟩, by decide +kernel⟩

theorem witness_HitsAckClearsTheNamedFlags :
    after120.mayModify 3 .ack 120 7 ∧ ackArgs [0, 120, 7, 4] = some (120, 7, 4) :=
  ⟨⟨rfl, by decide, by decide +kernel, by decide +kernel, by decide +kernel⟩, by decide⟩

theorem witness_ElementReadReturnsTheRecord :
    after120.phase = .ready ∧ (be16 0 120).toNat = (120 : ElementIx).val ∧
    after120.elements[(120 : Fin 512)].state ≠ .vacant ∧ (be16 1 255).toNat = (511 : ElementIx).val ∧
    after120.elements[(511 : Fin 512)].state = .vacant ∧ 512 ≤ (be16 2 0).toNat ∧
    ([] : List Byte).length ≠ 2 ∧ [(0 : Byte), 120, 0].length ≠ 2 := by decide +kernel

theorem witness_ElementRequestsAreRefusedInOrder :
    after120.phase = .ready ∧ after120.settings.holds 0 .service = false ∧
    after120.settings.holds 1 .service = true ∧ tenancyArgs [2, 0, 7] = none ∧
    tenancyArgs [1, 255, 7] = some (511, 7) ∧ after120.elements[(511 : Fin 512)].state = .vacant ∧
    tenancyArgs [0, 120, 6] = some (120, 6) ∧ after120.elements[(120 : Fin 512)].state ≠ .vacant ∧
    { after120.settings with bindings := #v[15, 1, 15, 15] }.binds 1 after120.elements[(120 : Fin 512)].machine = false ∧
    after120.settings.binds 1 after120.elements[(120 : Fin 512)].machine = true ∧
    6 ≠ after120.elements[(120 : Fin 512)].generation ∧
    (postArgs .replacement [0, 120, 6, 0, 0, 0, 0, 0, 0, 0]).isSome = true ∧
    defineArgs (define120 ++ [0]) = none ∧ (defineArgs define120).map (fun a => (a.index, a.machine)) = some (120, 1) ∧
    before120.settings.binds 1 2 = false := by decide +kernel

theorem witness_StartUpAnswersStarting : State.reset.phase = .starting := rfl

theorem witness_PassReportAddsToTheActiveBank :
    held.takesReport 1 1 ∧ passArgs [1, 2, 4, 2, 255, 4, 2, 100] =
      some (1, [{ zone := 4, itemClass := 2, count := 255 }, { zone := 4, itemClass := 2, count := 100 }]) :=
  ⟨⟨rfl, by decide, by decide, by decide⟩, by decide⟩

theorem witness_RunReportAddsToTheActiveBank : held.takesReport 1 1 ∧ runArgs [1, 255] = some (1, 255) :=
  ⟨⟨rfl, by decide, by decide, by decide⟩, by decide⟩

theorem witness_ReportsAreRefusedInOrder :
    held.phase = .ready ∧ held.settings.holds 3 .report = false ∧ held.settings.holds 1 .report = true ∧
    passArgs [1, 0] = none ∧ runArgs [1, 0] = none ∧ (passArgs [0, 1, 0, 0, 1]).map (fun a => a.1) = some 0 ∧
    held.settings.binds 1 0 = false ∧ held.settings.binds 1 1 = true ∧
    { held.settings with supplyPolicy := .freeze }.supplyPolicy = .freeze ∧
    { held with supply := .asserted }.supply = .asserted := by decide

theorem witness_ReckonNowHasOneOfThreeEffects :
    held.phase = .ready ∧ held.settings.holds 1 .report = true ∧ ready.foldState = .idle ∧ held.foldState ≠ .idle ∧
    held.pendingTrigger = false ∧ { held with pendingTrigger := true }.pendingTrigger = true ∧
    held.settings.holds 3 .report = false ∧ held.settings.holds 3 .admin = false := by decide

theorem witness_SwapClosesTheInterval :
    held.engine ≠ .idle ∧ ready.phase = .ready ∧ ready.engine = .idle ∧ ready.nothingWaits ∧
    ready.timer = .running 1800 ∧ ready.foldState = .idle ∧ held.timer = .running 1800 ∧ held.foldState ≠ .idle :=
  ⟨by decide, rfl, rfl, nothing_waits_ready, rfl, rfl, rfl, by decide⟩

theorem witness_ModeSetStoresTheMode :
    ready.phase = .ready ∧ held.settings.holds 0 .admin = false ∧ ready.settings.holds 0 .admin = true ∧
    modeArgs [4, 0] = none ∧ modeArgs [3, 2] = some (3, .discard) ∧
    { Settings.blank with bindings := #v[7, 15, 15, 15] }.binds 0 3 = false ∧ ready.settings.binds 0 3 = true := by
  decide

theorem witness_ElementStepReckonsOneRecord :
    (∃ run, (foldAt (.step 511) worked).engine = .fold run ∧ run.stage = .step 511 ∧
      worked.elements[(511 : Fin 512)].state = .vacant) ∧
    (∃ run, (foldAt (.step 23) (queue2 [] 0)).engine = .fold run ∧ run.stage = .step 23 ∧
      (queue2 [] 0).elements[(23 : Fin 512)].state = .suspended) ∧
    (∃ run, (foldAt (.step 37) worked).engine = .fold run ∧ run.stage = .step 37 ∧
      worked.elements[(37 : Fin 512)].state = .active ∧ run.snapshot.modes[(1 : Fin 4)] = .checked) ∧
    (∃ run, fold52.engine = .fold run ∧ run.stage = .step 52 ∧ fold52.elements[(52 : Fin 512)].limitLogged = true) ∧
    (∃ run, (foldAt (.step 0) (put 0 { element37 with machine := 3 } worked)).engine = .fold run ∧ run.stage = .step 0 ∧
      run.snapshot.modes[(3 : Fin 4)] = .discard) :=
  ⟨⟨_, rfl, rfl, by decide +kernel⟩, ⟨_, rfl, rfl, by decide +kernel⟩, ⟨_, rfl, rfl, by decide +kernel, by decide⟩,
    ⟨_, rfl, rfl, by decide +kernel⟩, ⟨_, rfl, rfl, by decide⟩⟩

theorem witness_WearIsCreditedExactly :
    element37.duty.toNat ≤ 64 ∧ element37.start ≤ 40112 ∧ element37.wear.toNat + 31305 ≤ 4294967295 ∧
    element200.start ≤ 40112 ∧ 4294967295 < element200.wear.toNat + 10000 ∧
    (40112 : Interval) < { element37 with start := 40113 }.start ∧
    rawFigure counts[(1 : Fin 4)].zones[(4 : Fin 16)].cells #v[2, 5, 12, 20, 30, 0, 0, 0] = 20870 := by decide +kernel

theorem witness_RateMovesTowardItsTarget :
    (0 : Fin 8) = 0 ∧ (0 : Word).toNat ≤ 1 * 256 ∧ (256 : Word).toNat ≤ 1 * 256 ∧ 1 * 256 < (257 : Word).toNat := by
  decide

theorem witness_ProjectionTakesItsFourCases :
    (0 : Word) = 0 ∧ (300 : Word) ≠ 0 ∧ (1 : Word) ≠ 0 ∧ (300 : Word) ≤ 300 ∧ (299 : Word) < 300 ∧
    project 299 1 300 7 = some 263 := by decide

theorem witness_ChecksMakeNewHits :
    ready.phase = .ready ∧ element37.rateLow ≤ element37.rateHigh ∧ (0 : Half) ≤ 0 := by decide

theorem witness_FoldCompletionStoresTheFold :
    ∃ run, (foldAt .store worked).engine = .fold run ∧ run.stage = .store := ⟨_, rfl, rfl⟩

theorem witness_MovedAndExpiredPlansGoStale :
    (foldAt .markStale worked).phase = .ready ∧
    ∃ run, (foldAt .markStale worked).engine = .fold run ∧ run.stage = .markStale := ⟨rfl, _, rfl, rfl⟩

theorem witness_DeferredHitsReachPortsByPolicy :
    fold52.settings.policies = #v[.none, .immediate, .deferred, .summary] ∧
    (∃ run, { fold52 with engine := .fold { FoldRun.begin 50004 fold52.settings with
        stage := .handHits, tally := DeferredTally.empty.add 2 52 .rate } }.engine = .fold run ∧ run.stage = .handHits ∧
      run.tally.machines[(2 : Fin 4)] = true ∧ run.tally.entries[(2 : Fin 4)][(2 : Fin 4)].count = 1) ∧
    (∀ m : MachineId, DeferredTally.empty.machines[m] = true → fold52.settings.binds 3 m = false) ∧
    ({ fold52 with
        attention := fold52.attention.set 2
          (fold52.attention[(2 : Fin 4)].hit .rate 1 (some 3) 0) }.attention[(2 : Fin 4)].summaries[(2 : Fin 4)].lowest =
      some 3) :=
  ⟨rfl, ⟨_, rfl, rfl, by decide, by decide⟩, by decide, by decide⟩

theorem witness_ClosedBankIsCleared :
    (∃ run, (foldAt .clearBank held).engine = .fold run ∧ run.stage = .clearBank) ∧
    (foldAt .clearBank held).pendingTrigger = false ∧
    { foldAt .clearBank held with pendingTrigger := true }.pendingTrigger = true := ⟨⟨_, rfl, rfl⟩, rfl, rfl⟩

/-- The releases of Table 8-5: FOLD, then SLOT3. -/
def releasing (a : Arbiter) : State :=
  { foldAt .release console with
    foldState := .foldWait 40113, slots := console.slots.set 3 (.waiting copy1), arbiter := a }

theorem witness_EngineIsReleasedAndGranted :
    (∃ run, (foldAt .release ready).engine = .fold run ∧ run.stage = .release) ∧
    (foldAt .release ready).nothingWaits ∧
    (let s := releasing { high := .low, low := .slot 2, waiting := #v[true, false, false, false, true] }
     s.arbiter.choose s.settings.tiers = some (.fold, .requester .fold, .slot 2) ∧ s.foldState = .foldWait 40113) ∧
    (let s := releasing { high := .requester .fold, low := .slot 2, waiting := #v[true, false, false, false, true] }
     s.arbiter.choose s.settings.tiers = some (.slot 3, .low, .slot 3) ∧ s.slots[(3 : Fin 4)] = .waiting copy1) :=
  ⟨⟨_, rfl, rfl⟩, by unfold State.nothingWaits; decide, by decide, by decide⟩

theorem witness_ArbiterFollowsTheRotations :
    let tiers : Vector Tier 5 := #v[.high, .low, .low, .low, .low]
    ({ high := .low, low := .slot 2, waiting := #v[true, true, true, false, true] } : Arbiter).choose tiers =
      some (.fold, .requester .fold, .slot 2) ∧ tiers[Requester.fold.ix] = .high ∧
    ({ high := .requester .fold, low := .slot 2, waiting := #v[true, true, true, false, true] } : Arbiter).choose tiers =
      some (.slot 3, .low, .slot 3) ∧ tiers[(Requester.slot 3).ix] = .low ∧
    Arbiter.reset.choose tiers = none := by decide

theorem witness_LongRequestsUseTheDeferredSlot :
    { Settings.blank with roles := #v[23, 31, 31, 31] }.holds 0 .plan = false ∧
    ready.settings.holds 0 .plan = true ∧ planBuildArgs [4] = none ∧ planBuildArgs [] = none ∧
    planBuildArgs [3] = some 3 ∧ { Settings.blank with bindings := #v[7, 15, 15, 15] }.binds 0 3 = false ∧
    historyReadArgs [2, 0, 0] = none ∧ historyReadArgs [1, 255, 24] = none ∧ findArgs [5, 1, 0xFF, 0xFF] = none ∧
    findArgs [4, 0, 0xFF, 0xFF] = none ∧ findArgs [4, 32, 0xFF, 0xFF] = none ∧ findArgs [4, 1, 2, 0] = none ∧
    LongRequestPasses console 3 [1] (.planBuild 3 [1]) (.planBuild 1) ∧
    LongRequestPasses held 3 [0, 5, 0] (.historyRead 3 [0, 5, 0]) (.historyRead 5 0) ∧
    LongRequestPasses held 0 [4, 3, 0xFF, 0xFF] (.elementFind 0 [4, 3, 0xFF, 0xFF]) (.elementFind none 3 none) ∧
    (console.phase = .ready ∧ console.slots[(3 : Fin 4)] = .empty ∧ console.engine = .idle ∧ console.nothingWaits) ∧
    (held.slots[(0 : Fin 4)] = .empty ∧ held.engine ≠ .idle) ∧
    (held.slots[(3 : Fin 4)] = .running { request := .planBuild 1, payload := [1] }) ∧
    (releasing Arbiter.reset).slots[(3 : Fin 4)] = .waiting copy1 ∧
    (readySlot 1 ready).slots[(2 : Fin 4)] = .ready copy1 (.plan .fresh 5 3 3) 1 ∧
    (copy1.request.kind = .planBuild ∧ copy1.payload = [1]) ∧
    (copy1.request.kind ≠ .historyRead ∧ copy1.payload ≠ [0, 5, 0]) :=
  ⟨by decide, by decide, by decide, by decide, by decide, by decide, by decide, by decide, by decide, by decide, by decide,
    by decide, .planBuild 1 (by decide) (by decide) (by decide), .historyRead 5 0 (by decide), .elementFind none 3 none (by decide),
    ⟨rfl, by decide, rfl, by unfold State.nothingWaits; decide⟩, ⟨by decide, by decide⟩, by decide, by decide, by decide,
    by decide, by decide⟩

theorem witness_LookupsCompleteAndResultsExpire :
    (∃ copy, (looking (.historyRead 77 23) [0, 77, 23] shared).slots[(0 : Fin 4)] = .running copy ∧
      copy.request = .historyRead 77 23) ∧
    (looking (.historyRead 77 23) [0, 77, 23] shared).engine = .lookup 0 ∧
    (∃ copy, (looking (.elementFind none 1 (some 0)) [4, 1, 0, 0] worked).slots[(0 : Fin 4)] = .running copy ∧
      copy.request = .elementFind none 1 (some 0)) ∧
    (readySlot 1 ready).slots[(2 : Fin 4)] = .ready copy1 (.plan .fresh 5 3 3) 1 :=
  ⟨⟨_, rfl, rfl⟩, rfl, ⟨_, rfl, rfl⟩, rfl⟩

theorem witness_QueueAndPlanAreReadInPages :
    State.reset.phase = .starting ∧ console.phase = .ready ∧ queueArgs [1, 2, 0] = none ∧ queueArgs [1, 1, 255] = some (1, 511) ∧
    planReadArgs [1, 9, 0] = none ∧ planReadArgs [1, 0, 32] = none ∧ planReadArgs [1, 8, 31] = some (1, .unplaced, 31) ∧
    planReadArgs [1, 7, 0] = some (1, .window 7, 0) := by decide

theorem witness_NoticesKeepTheQueueInOrder :
    InDueOrder snapshot1 ∧ (snapshot1.map fun x => x.index).Nodup := by unfold InDueOrder; decide

theorem witness_WindowsAreSetAndDropped :
    console.phase = .ready ∧ console.settings.holds 0 .plan = false ∧ console.settings.holds 3 .plan = true ∧
    windowSetArgs ([1, 6] ++ be 4 70411 ++ be 4 70400 ++ [1]) = none ∧ windowDropArgs [1, 8] = none ∧
    windowSetArgs ([1, 7] ++ be 4 70401 ++ be 4 70401 ++ [33]) =
      some (1, 7, { start := 70401, finish := 70401, capacity := 33 }) ∧
    (70400 : Interval) < console.openInterval ∧ console.openInterval ≤ 70401 ∧
    { console.settings with bindings := #v[15, 15, 15, 1] }.binds 3 1 = false ∧ console.settings.binds 3 1 = true ∧
    windowDropArgs [1, 0] = some (1, 0) ∧ console.windows[(1 : Fin 4)][(0 : Fin 8)] = none ∧
    windowDropArgs [1, 6] = some (1, 6) ∧ console.windows[(1 : Fin 4)][(6 : Fin 8)] ≠ none := by decide

theorem witness_PlanBuildInstallsItsPlan :
    building.engine = .build 3 build1 ∧ building.slots[(3 : Fin 4)] = .running copy1 := by decide

theorem witness_PlacementAccountsForEveryEntry :
    (∀ w : WindowSlot, (Vector.replicate 8 none : Vector (Option Window) 8)[w] = none) ∧
    horizon windows1 = some 70412 := by decide

theorem windows1_end_by_70412 : ∀ (w : WindowSlot) (v : Window), windows1[w] = some v → v.finish < 70413 := by
  have each : ∀ w : WindowSlot, (windows1[w].all fun v => decide (v.finish < 70413)) = true := by decide
  intro w v held
  have := each w
  rw [held] at this
  simpa using this

theorem witness_PlacementRespectsTheWindows :
    windows1[(0 : Fin 8)] = none ∧
    windows1[(3 : Fin 8)] = some { start := 70410, finish := 70412, capacity := 2 } ∧
    0 < (placeAll (Vector.replicate 8 (window 9 9 1)) ((List.range 34).map fun _ => entry 1 5)).unplaced.length ∧
    bestCandidate windows1 (Vector.replicate 8 []) 70412 = some 3 ∧
    (∃ x v, windows1[(x : WindowSlot)] = some v ∧ v.finish ≤ 70405 ∧ ([] : List QueueEntry).length < v.capacity.toNat) ∧
    (∀ (w : WindowSlot) (v : Window), windows1[w] = some v → v.finish < 70413) ∧
    ¬ (∀ (w : WindowSlot) (v : Window), windows1[w] = some v → v.finish < 70412) ∧
    bestCandidate windows1 (Vector.replicate 8 []) 70404 = none ∧ (placeAll windows1 []).unplaced.length < 32 ∧
    (placeAll (Vector.replicate 8 (window 9 9 1)) ((List.range 34).map fun _ => entry 1 5)).unplaced.length = 32 :=
  ⟨by decide, by decide, by decide +kernel, by decide, ⟨1, _, rfl, by decide, by decide⟩, windows1_end_by_70412,
    fun all => absurd (all 3 _ rfl) (by decide), by decide, by decide, by decide +kernel⟩

theorem witness_ServicePostsTakeTheirForms :
    shared.mayModify 0 .service 77 5 ∧
    (postArgs .replacement [0, 77, 5, 0, 3, 0, 0, 0, 0, 0]).map (fun a => (a.index, a.generation)) = some (77, 5) ∧
    (postArgs .inspection [0, 77, 5, 1, 3, 0, 0, 0, 0, 0]).map (fun a => (a.index, a.generation)) = some (77, 5) ∧
    (postArgs .correction [0, 77, 5, 1, 3, 1, 0, 0, 0, 9]).map (fun a => (a.index, a.generation, a.corrected)) =
      some (77, 5, 9) :=
  ⟨⟨rfl, by decide +kernel, by decide +kernel, by decide +kernel, by decide +kernel⟩, by decide, by decide, by decide⟩

/-- A store in which one element owns one chain and every other block is FREE. -/
theorem one_chain (elements : Vector Element 512) (alloc : Vector AllocEntry 256) (e0 : ElementIx) (b0 tail : BlockIx)
    (top : RecordSlot) (heads : ∀ e : ElementIx, elements[e].head = if e = e0 then some b0 else none)
    (defined : elements[e0].state ≠ .vacant) (blocks : List BlockIx) (chain : chainOf alloc (some b0) = blocks)
    (ends : blocks.getLast? = some tail) (last : alloc[tail] = .last top)
    (owned : ∀ b : BlockIx, alloc[b] ≠ .free → b ∈ blocks) :
    ChainsMeetR131 elements alloc where
  vacant e h := by
    rw [heads]
    by_cases he : e = e0
    · rw [he] at h; exact absurd h defined
    · rw [if_neg he]
  ends e b h := by
    rw [heads] at h
    by_cases he : e = e0
    · rw [if_pos he] at h; cases h; exact ⟨tail, top, by rw [chain, ends], last⟩
    · rw [if_neg he] at h; cases h
  owned b h := ⟨e0, by rw [heads, if_pos rfl, chain]; exact owned b h⟩
  disjoint e f b he hf := by
    rw [heads] at he hf
    by_cases h1 : e = e0 <;> by_cases h2 : f = e0
    · rw [h1, h2]
    · rw [if_neg h2] at hf; simp [chainOf] at hf
    · rw [if_neg h1] at he; simp [chainOf] at he
    · rw [if_neg h1] at he; simp [chainOf] at he

/-- Element 91 alone, with the chain of Table 7-10 after step 1: four full blocks. -/
def four : State :=
  { put 91 (chained 2 9 40) ready with
    pool :=
      { HistoryPool.blank with
        alloc := (((HistoryPool.blank.alloc.set 40 (.next 41)).set 41 (.next 42)).set 42 (.next 43)).set 43 (.last 5) } }

theorem put_head (e f : ElementIx) (m : MachineId) (g : Generation) (b : BlockIx) :
    (put e (chained m g b) ready).elements[f].head = if f = e then some b else none := by
  rw [put_get, ready_get]
  by_cases h : f = e <;> simp [h, chained, Element.blank]

theorem four_meets_R131 : ChainsMeetR131 four.elements four.pool.alloc :=
  one_chain _ _ 91 40 43 5 (fun e => put_head 91 e 2 9 40) (by decide +kernel) [40, 41, 42, 43] (by decide +kernel) rfl
    (by decide +kernel) (by decide +kernel)

/-- Element 90 alone, with one full block. -/
def single : State :=
  { put 90 (chained 0 2 33) ready with
    pool := { HistoryPool.blank with alloc := HistoryPool.blank.alloc.set 33 (.last 5) } }

theorem single_meets_R131 : ChainsMeetR131 single.elements single.pool.alloc :=
  one_chain _ _ 90 33 33 5 (fun e => put_head 90 e 0 2 33) (by decide +kernel) [33] (by decide +kernel) rfl
    (by decide +kernel) (by decide +kernel)

/-- Every block is the one full block of the element of its number. -/
def crowded : State :=
  { ready with
    elements := Vector.ofFn fun e => if h : e.val < 256 then chained 0 1 ⟨e.val, h⟩ else Element.blank
    pool := { HistoryPool.blank with alloc := Vector.replicate 256 (.last 5) } }

theorem crowded_alloc (b : BlockIx) : crowded.pool.alloc[b] = .last 5 := by simp [crowded]

theorem crowded_chain (b : BlockIx) : chainOf crowded.pool.alloc (some b) = [b] := by
  simp only [chainOf, Config.maxChainBlocks, chainFrom, crowded_alloc]

theorem crowded_head (e : ElementIx) :
    crowded.elements[e].head = if h : e.val < 256 then some ⟨e.val, h⟩ else none := by
  by_cases h : e.val < 256 <;> simp [crowded, h, chained, Element.blank]

theorem crowded_meets_R131 : ChainsMeetR131 crowded.elements crowded.pool.alloc where
  vacant e h := by
    by_cases he : e.val < 256
    · simp [crowded, he, chained] at h
    · rw [crowded_head, dif_neg he]
  ends e b _ := ⟨b, 5, by rw [crowded_chain]; rfl, crowded_alloc b⟩
  owned b _ :=
    ⟨⟨b.val, Nat.lt_trans b.isLt (by decide)⟩, by rw [crowded_head, dif_pos b.isLt, crowded_chain]; simp⟩
  disjoint e f b he hf := by
    rw [crowded_head] at he hf
    by_cases h1 : e.val < 256 <;> by_cases h2 : f.val < 256
    · rw [dif_pos h1, crowded_chain] at he
      rw [dif_pos h2, crowded_chain] at hf
      have h3 := congrArg Fin.val (List.mem_singleton.mp he)
      have h4 := congrArg Fin.val (List.mem_singleton.mp hf)
      exact Fin.ext (h3.symm.trans h4)
    · rw [dif_neg h2] at hf; simp [chainOf] at hf
    · rw [dif_neg h1] at he; simp [chainOf] at he
    · rw [dif_neg h1] at he; simp [chainOf] at he

/-- A chain at its cap, a chain that opens a FREE block, and a chain of one full block in a pool without FREE blocks. -/
theorem witness_AppendsKeepTheNewestRecords :
    (four.phase = .ready ∧ ChainsMeetR131 four.elements four.pool.alloc ∧ four.elements[(91 : Fin 512)].state ≠ .vacant ∧
      (chainOf four.pool.alloc four.elements[(91 : Fin 512)].head).length = 4 ∧
      (chainRecords four.pool four.elements[(91 : Fin 512)].head).length = 24) ∧
    (single.phase = .ready ∧ ChainsMeetR131 single.elements single.pool.alloc ∧
      single.elements[(90 : Fin 512)].state ≠ .vacant ∧ single.pool.alloc[(0 : Fin 256)] = .free) ∧
    (crowded.phase = .ready ∧ ChainsMeetR131 crowded.elements crowded.pool.alloc ∧
      (∀ b : BlockIx, crowded.pool.alloc[b] ≠ .free) ∧ crowded.elements[(0 : Fin 512)].state ≠ .vacant ∧
      (chainRecords crowded.pool crowded.elements[(0 : Fin 512)].head).length = 6 ∧
      (chainOf crowded.pool.alloc crowded.elements[(0 : Fin 512)].head).length = 1) :=
  ⟨⟨rfl, four_meets_R131, by decide +kernel, by decide +kernel, by decide +kernel⟩,
    ⟨rfl, single_meets_R131, by decide +kernel, by decide +kernel⟩,
    rfl, crowded_meets_R131, fun b => by rw [crowded_alloc]; simp, by decide +kernel, by decide +kernel, by decide +kernel⟩

theorem witness_LinkRowsActOnTheirPort :
    (withLink 1 { Link.reset with tx := .preparing { kind := 0xA2, payload := [4] } }).links[(1 : Fin 4)].tx =
      .preparing { kind := 0xA2, payload := [4] } := rfl

theorem witness_PortResetCleansItsPort :
    ready.phase = .ready ∧ ready.engine.occupant ≠ some (.slot 0) ∧ building.engine.occupant = some (.slot 3) := by decide

theorem witness_LinkByteMovesOneByteEachWay :
    (∃ l : Link, l.tx = .sending [1, 2, 3] 1 ∧ [(1 : Byte), 2, 3][1]? = some 2 ∧ 1 + 1 < [(1 : Byte), 2, 3].length) ∧
    (∃ l : Link, l.tx = .sending [1, 2] 1 ∧ [(1 : Byte), 2][1]? = some 2 ∧ 1 + 1 = [(1 : Byte), 2].length) ∧
    (∀ frame next, Link.reset.tx ≠ .sending frame next) ∧
    Receiver.hunt.take 0xD2 = (.kind, .nothing) ∧
    (Receiver.len 0x22 0x22).take 57 = (.hunt, .failed .length) ∧
    (Receiver.endMark 0x22 [] 0).take 0x2D = (.hunt, .complete 0x22 []) ∧ requestKindOf 0x22 = some .reckonNow ∧
    (Receiver.endMark 0x23 [] 0).take 0x2D = (.hunt, .complete 0x23 []) ∧ requestKindOf 0x23 = none :=
  ⟨⟨{ Link.reset with tx := .sending [1, 2, 3] 1 }, rfl, rfl, by decide⟩,
    ⟨{ Link.reset with tx := .sending [1, 2] 1 }, rfl, rfl, rfl⟩, by simp [Link.reset], rfl, rfl, rfl, rfl, rfl, rfl⟩

theorem witness_FramesAreReceivedAsSent :
    ([] : List Byte).length ≤ 56 ∧ (List.replicate 56 (0 : Byte)).length ≤ 56 ∧ (0x2C : Byte) ≠ 0x2D ∧
    (0x22 : Byte) + BitVec.ofNat 8 ([] : List Byte).length + ([] : List Byte).foldl (· + ·) 0 + 0xDF ≠ 0 ∧
    56 < (57 : Byte).toNat := by decide

theorem witness_OtherPortsLinksAreUntouched :
    ((1 : Port) ≠ 0) ∧
    (∃ t, exec (.statusRead 0 []) ready = .next t ∧ t.phase = ready.phase) ∧
    (∃ t, exec (.frameError 0 .check) ready = .next t ∧ t.phase = ready.phase) ∧
    (∃ t, exec (.unknown 0 0x23) ready = .next t ∧ t.phase = ready.phase) ∧
    (∃ t, exec (.selHigh 0) ready = .next t ∧ t.phase = ready.phase) ∧
    (∃ t, exec (.replyReady 1) (withLink 1 { Link.reset with tx := .preparing { kind := 0xA2, payload := [4] } }) =
      .next t ∧ t.phase = .ready) ∧
    (∃ t, exec (.discardTimerExpiry 2) (readySlot 1 ready) = .next t ∧ t.phase = .ready) ∧
    (∃ t, exec (.linkByte 0 0xD2) ready = .next t ∧ t.phase = ready.phase) ∧
    requestOfFrame 0 [] .statusRead = .statusRead 0 [] :=
  ⟨by decide, ⟨_, rfl, rfl⟩, ⟨_, rfl, rfl⟩, ⟨_, rfl, rfl⟩, ⟨_, rfl, rfl⟩, ⟨_, rfl, rfl⟩, ⟨_, rfl, rfl⟩, ⟨_, rfl, rfl⟩, rfl⟩

theorem witness_AttentionRequestsActOnTheirPort :
    line10.phase = .ready ∧ causeArgs [0x07, 0xFF] = some 0x7FF ∧ causeArgs [0, 0] = some 0 ∧
    2048 ≤ (be16 0x08 0x00).toNat ∧ [(0 : Byte)].length ≠ 2 ∧ [(0 : Byte), 0, 0].length ≠ 2 := by decide

theorem line10_follows : LinesFollowSets line10 := by
  intro p
  by_cases h : p = 0
  · subst h
    exact ⟨fun _ => ⟨.limit, rfl, rfl⟩, fun _ => rfl⟩
  · have clear : ∀ q : Port, q ≠ 0 → line10.attention[q].line = false ∧ line10.attention[q].pending = 0 := by decide
    rw [(clear p h).1, (clear p h).2]
    constructor
    · intro asserted
      cases asserted
    · rintro ⟨c, hc, _⟩
      simp [hasCause] at hc

theorem witness_RaisesAndStalenessReachTheirPorts :
    LinesFollowSets line10 ∧ line10.phase = .ready ∧ State.reset.phase = .starting ∧
    line10.attention[(0 : Fin 4)].summaries[(0 : Fin 4)].lowest = some 41 ∧
    line10.attention[(1 : Fin 4)].summaries[(0 : Fin 4)].lowest = none ∧
    building.engine = .build 3 build1 ∧ build1.machine = 1 ∧ build1.machine ≠ 2 ∧
    { Plan.none with state := .fresh }.state = .fresh ∧ building.plans[(1 : Fin 4)].state ≠ .fresh :=
  ⟨line10_follows, rfl, rfl, by decide, by decide, by decide, rfl, by decide, rfl, by decide⟩

theorem witness_SettingsReadReturnsTheStoredValue :
    ready.phase = .ready ∧ (1 : Byte) ≠ 0 ∧ (7 : Byte).toNat = (7 : ItemClass).val ∧ 8 ≤ (8 : Byte).toNat ∧
    (3 : Byte).toNat = (3 : Fin 4).val ∧ 4 ≤ (4 : Byte).toNat ∧ (4 : Byte).toNat = (4 : Fin 5).val ∧
    5 ≤ (5 : Byte).toNat ∧ 11 < (12 : Byte).toNat ∧ [(1 : Byte)].length ≠ 2 ∧ [(1 : Byte), 0, 0].length ≠ 2 := by decide

theorem witness_SettingsWriteStoresOneItem :
    ready.phase = .ready ∧ ready.settings.holds 0 .admin = true ∧
    { Settings.blank with roles := #v[15, 31, 31, 31] }.holds 0 .admin = false ∧
    settingItem 1 0 = some .intervalLength ∧ settingItem 2 7 = some (.classWeight 7) ∧
    settingItem 3 3 = some (.smoothingShift 3) ∧ settingItem 4 0 = some (.machineMode 0) ∧
    settingItem 5 0 = some (.roleSet 0) ∧ settingItem 6 1 = some (.binding 1) ∧
    settingItem 7 2 = some (.notifyPolicy 2) ∧ settingItem 8 3 = some (.enableSet 3) ∧
    settingItem 9 0 = some (.discardTime 0) ∧ settingItem 10 4 = some (.tierBit 4) ∧ settingItem 11 0 = some .supplyPolicy ∧
    32 ≤ (32 : Half).toNat ∧ (31 : Half).toNat < 32 ∧ 16 ≤ (16 : Half).toNat ∧ (15 : Half).toNat < 16 ∧
    (∀ x : Port, (#v[15, 0, 0, 0] : Vector (BitVec 5) 4)[x].getLsbD 4 = false) ∧
    (#v[16, 0, 0, 0] : Vector (BitVec 5) 4)[(0 : Fin 4)].getLsbD 4 = true ∧
    3 < (4 : Half).toNat ∧ 2048 ≤ (2048 : Half).toNat ∧ (2047 : Half).toNat < 2048 ∧ 1 < (2 : Half).toNat ∧
    [(1 : Byte), 0, 0].length ≠ 4 ∧ [(1 : Byte), 0, 0, 1, 0].length ≠ 4 ∧ (0 : Byte).toNat = 0 ∧ 11 < (12 : Byte).toNat ∧
    (1 : Byte) ≠ 0 ∧ 8 ≤ (8 : Byte).toNat ∧ 4 ≤ (4 : Byte).toNat ∧ 5 ≤ (5 : Byte).toNat := by decide

theorem witness_StatusReadReportsThePart : State.reset.phase = .starting ∧ ready.phase = .ready := ⟨rfl, rfl⟩

theorem witness_StartUpBegins :
    ready.phase = .ready ∧ ready.settings.holds 0 .admin = true ∧ before120.settings.holds 1 .admin = false := by decide

theorem witness_EnterReadySetsTheResetValues : State.reset.phase = .starting := rfl

/-- The store of Table 11-3, in start-up. -/
def damaged : State :=
  { State.reset with
    elements := ((State.reset.elements.set 12 (chained 0 1 5)).set 40 (chained 0 1 9)).set 77 (chained 0 1 2)
    pool := { HistoryPool.blank with alloc := broken } }

def repaired : State := damaged.repair

/-- Table 11-3: element 12 keeps 5 and 9, with 9 closed as LAST(6), element 40 keeps nothing of its chain at 9, and element
77 keeps four blocks of five. -/
theorem damaged_repaired :
    chainOf damaged.pool.alloc damaged.elements[(12 : Fin 512)].head = [5, 9] ∧
    chainOf repaired.pool.alloc repaired.elements[(12 : Fin 512)].head = [5, 9] ∧
    damaged.pool.alloc[(9 : Fin 256)] = .next 20 ∧ repaired.pool.alloc[(9 : Fin 256)] = .last 5 ∧
    damaged.elements[(40 : Fin 512)].state ≠ .vacant ∧
    chainOf repaired.pool.alloc repaired.elements[(40 : Fin 512)].head ++ 9 :: [] =
      chainOf damaged.pool.alloc damaged.elements[(40 : Fin 512)].head ∧
    chainOf repaired.pool.alloc repaired.elements[(77 : Fin 512)].head = [2, 3, 4, 6] ∧
    repaired.pool.alloc[(31 : Fin 256)] = .free ∧ repaired.pool.alloc[(8 : Fin 256)] = .free := by decide +kernel

/-- A sound store, and the damaged one of Table 11-3. -/
theorem witness_ChainRepairRestoresR131 :
    (let s : State := { four with phase := .starting }
     s.phase = .starting ∧ (∃ t, exec .enterReady s = .next t) ∧ ChainsMeetR131 s.elements s.pool.alloc) ∧
    damaged.phase = .starting ∧
    ∃ t, exec .enterReady damaged = .next t ∧ t.elements = repaired.elements ∧ t.pool = repaired.pool :=
  ⟨⟨rfl, ⟨_, rfl⟩, four_meets_R131⟩, rfl, enterReady_store rfl⟩

theorem witness_SupplyEventsRaiseAndTrigger :
    ready.phase = .ready ∧ ready.supply = .deasserted ∧ ready.settings.supplyPolicy = .fold ∧ ready.foldState = .idle ∧
    held.phase = .ready ∧ held.supply = .deasserted ∧ held.foldState ≠ .idle ∧
    { Settings.blank with supplyPolicy := .freeze }.supplyPolicy = .freeze ∧
    { ready with supply := .asserted }.supply = .asserted ∧ State.reset.phase = .starting := by decide

theorem witness_OwnEventsStopWhereTheyDoNotArise :
    (∀ reply, ready.links[(0 : Fin 4)].tx ≠ .preparing reply) ∧ (∀ n, State.reset.timer ≠ .running n) ∧
    ready.phase = .ready ∧ (∀ run, ready.engine ≠ .fold run) ∧ (∀ p run, ready.engine ≠ .build p run) ∧
    (∀ p, ready.engine ≠ .lookup p) ∧ (∀ copy result n, ready.slots[(0 : Fin 4)] ≠ .ready copy result n) ∧
    (∃ run, (foldAt .store worked).engine = .fold run ∧ run.stage ≠ .markStale) :=
  ⟨by simp [ready, State.reset, Link.reset], by simp [State.reset], rfl, by simp [ready, State.reset],
    by simp [ready, State.reset], by simp [ready, State.reset], by simp [ready, State.reset], _, rfl, by decide⟩

theorem witness_EveryStepKeepsLinesWithSets :
    let s : State := { line10 with pending := [.attnClear 0 [0x04, 0x04]] }
    LinesFollowSets s ∧ ∃ t, step s = .next t := ⟨line10_follows, _, rfl⟩

theorem console_in_range : StoreInRange console where
  elements e := by
    have blank : console.elements[e] = Element.blank := by simp [console, ready, State.reset]
    rw [blank]
    exact ⟨by decide, fun _ => rfl, fun h => absurd rfl h, fun h => absurd rfl h⟩
  windows m w v h := by
    have all : ∀ (m : MachineId) (w : WindowSlot), (console.windows[m][w]).all
        (fun v => v.start ≤ v.finish && 1 ≤ v.capacity.toNat && v.capacity.toNat ≤ 32) = true := by decide
    have one := all m w
    rw [h] at one
    simp only [Option.all_some, Bool.and_eq_true, decide_eq_true_eq] at one
    exact ⟨one.1.1, one.1.2, one.2⟩
  intervalLength := by decide
  admin := ⟨0, by decide⟩

theorem witness_EveryStepKeepsTheStoreInRange :
    let s : State := { console with pending := [.windowDrop 3 [1, 3]] }
    StoreInRange s ∧ ∃ t, step s = .next t :=
  ⟨⟨console_in_range.elements, console_in_range.windows, console_in_range.intervalLength, console_in_range.admin⟩,
    _, rfl⟩

/-- Element 37 alone, in its queue. -/
def queued : State :=
  { put 37 element37 ready with queues := ready.queues.set 1 { entries := [entry 37 40120], revision := 8 } }

theorem queued_matches : QueuesMatchRecords queued := by
  intro _ m
  have q : queued.queues[m].entries = if m = 1 then [entry 37 40120] else [] := by revert m; decide
  refine ⟨by rw [q]; by_cases h : m = 1 <;> simp [h, InDueOrder], fun e d => ?_⟩
  have r : queued.elements[e] = if e = 37 then element37 else Element.blank :=
    (put_get 37 e element37 ready).trans (by rw [ready_get])
  rw [q, r]
  by_cases h : e = 37 <;> by_cases h2 : m = 1
  · subst h; subst h2; simp [entry, element37, eq_comm]
  · have : (1 : Fin 4) ≠ m := fun x => h2 x.symm
    simp [h, h2, this, element37]
  · simp [h, h2, entry, Element.blank]
  · simp [h, h2, Element.blank]

theorem witness_EveryStepKeepsQueuesWithRecords :
    let s : State := { queued with pending := [.elementSuspend 0 [0, 37, 4]] }
    QueuesMatchRecords s ∧ ∃ t, step s = .next t := ⟨queued_matches, _, rfl⟩

theorem held_agrees : EngineAgreement held where
  slotWaits p := by
    have waits : ∀ q : Port, held.arbiter.waiting[q.succ] = false := by decide
    have slots : ∀ q : Port, held.slots[q] = if q = 3 then .running copy1 else .empty := by decide
    rw [waits p, slots p]
    by_cases h : p = 3 <;> simp [h]
  slotRuns p := by
    have slots : ∀ q : Port, held.slots[q] = if q = 3 then .running copy1 else .empty := by decide
    have occupant : held.engine.occupant = some (.slot 3) := rfl
    rw [occupant, slots p]
    by_cases h : p = 3
    · simp [h]
    · have : (3 : Fin 4) ≠ p := fun x => h x.symm
      simp [h, this]
  foldWaits := ⟨fun _ => rfl, fun _ => ⟨40112, rfl⟩⟩
  folds := ⟨fun ⟨_, h⟩ => by simp [held] at h, fun ⟨_, h, _⟩ => by simp [held] at h⟩
  idle h := by simp [held] at h

theorem witness_EveryStepKeepsEngineAgreement :
    let s : State := { held with pending := [.planBuildCompletion] }
    EngineAgrees s ∧ ∃ t, step s = .next t :=
  ⟨fun _ => ⟨held_agrees.slotWaits, held_agrees.slotRuns, held_agrees.foldWaits, held_agrees.folds, held_agrees.idle⟩,
    _, rfl⟩

theorem witness_EveryStepKeepsIntervalNumbers :
    let s : State := { ready with pending := [.intervalTimerExpiry] }
    IntervalNumbersAgree s ∧ ∃ t, step s = .next t := by
  refine ⟨fun _ => ?_, _, rfl⟩
  refine ⟨by decide, rfl, rfl, fun run h => by cases h⟩

theorem witness_EveryStepKeepsChainsSound :
    let s : State := { four with pending := [.elementVacate 0 [0, 91, 9]] }
    ChainsMeetR131 s.elements s.pool.alloc ∧ ∃ t, step s = .next t := ⟨four_meets_R131, _, rfl⟩

end Sys2Proof.Tests
end

/-! # Proofs: the Element Table (chapter 1) -/

namespace Sys2Proof.Machine

/-! ## When a modifying request is taken -/

/-- The checks of Table 1-5 all pass, so the request acts on the record its index names (R6). -/
theorem modifyElement_of_mayModify {α : Type} {s : State} {p : Port} {role : Role} {e : ElementIx}
    {g : Generation} (h : s.mayModify p role e g) (x : α)
    (act : ElementIx → Element → α → State → State × Answer) :
    modifyElement p role (some (e, g, x)) act s = act e s.elements[e] x s := by
  obtain ⟨_, hrole, hdefined, hbound, hcurrent⟩ := h
  simp only [modifyElement, hrole, hdefined, hbound, hcurrent, ne_eq, not_true_eq_false, if_false,
    Bool.true_eq_false]

/-- A taken modifying request answers with what its block does to the record (R6, R162). -/
theorem takeRequest_of_mayModify {α : Type} {s : State} {p : Port} {role : Role} {e : ElementIx}
    {g : Generation} (h : s.mayModify p role e g) (k : RequestKind) (x : α)
    (act : ElementIx → Element → α → State → State × Answer) :
    takeRequest p k (modifyElement p role (some (e, g, x)) act) s =
      .next ((act e s.elements[e] x s).1.answer p (replyKind k) (act e s.elements[e] x s).2) := by
  rw [takeRequest_ready h.ready, modifyElement_of_mayModify h]

theorem plainArgs_of_tenancyArgs {payload : List Byte} {e : ElementIx} {g : Generation}
    (h : tenancyArgs payload = some (e, g)) : plainArgs payload = some (e, g, ()) := by
  simp only [plainArgs, h]

/-! ## What each taken request of the Element Table answers -/

section Taken

variable {s : State} {p : Port} {payload : List Byte} {e : ElementIx} {g : Generation}

theorem exec_elementVacate_taken (h : s.mayModify p .service e g)
    (hargs : tenancyArgs payload = some (e, g)) :
    exec (.elementVacate p payload) s =
      .next ((vacate e s.elements[e] () s).1.answer p 0x91#8 (vacate e s.elements[e] () s).2) := by
  change takeRequest p .elementVacate (modifyElement p .service (plainArgs payload) vacate) s = _
  rw [plainArgs_of_tenancyArgs hargs]
  exact takeRequest_of_mayModify h .elementVacate () vacate

theorem exec_elementSuspend_taken (h : s.mayModify p .service e g)
    (hargs : tenancyArgs payload = some (e, g)) :
    exec (.elementSuspend p payload) s =
      .next ((suspend e s.elements[e] () s).1.answer p 0x92#8 (suspend e s.elements[e] () s).2) := by
  change takeRequest p .elementSuspend (modifyElement p .service (plainArgs payload) suspend) s = _
  rw [plainArgs_of_tenancyArgs hargs]
  exact takeRequest_of_mayModify h .elementSuspend () suspend

theorem exec_elementResume_taken (h : s.mayModify p .service e g)
    (hargs : tenancyArgs payload = some (e, g)) :
    exec (.elementResume p payload) s =
      .next ((resume e s.elements[e] () s).1.answer p 0x93#8 (resume e s.elements[e] () s).2) := by
  change takeRequest p .elementResume (modifyElement p .service (plainArgs payload) resume) s = _
  rw [plainArgs_of_tenancyArgs hargs]
  exact takeRequest_of_mayModify h .elementResume () resume

theorem exec_limitsSet_taken {v : LimitValues} (h : s.mayModify p .plan e g)
    (hargs : limitsArgs payload = some (e, g, v)) :
    exec (.limitsSet p payload) s =
      .next ((setLimits e s.elements[e] v s).1.answer p 0x94#8 (setLimits e s.elements[e] v s).2) := by
  change takeRequest p .limitsSet (modifyElement p .plan (limitsArgs payload) setLimits) s = _
  rw [hargs]
  exact takeRequest_of_mayModify h .limitsSet v setLimits

theorem exec_hitsAck_taken {named : FlagSet} (h : s.mayModify p .ack e g)
    (hargs : ackArgs payload = some (e, g, named)) :
    exec (.hitsAck p payload) s =
      .next ((ackHits e s.elements[e] named s).1.answer p 0x95#8 (ackHits e s.elements[e] named s).2) := by
  change takeRequest p .hitsAck (modifyElement p .ack (ackArgs payload) ackHits) s = _
  rw [hargs]
  exact takeRequest_of_mayModify h .hitsAck named ackHits

end Taken

/-! ## Blocks freed (R139) -/

/-- A block is FREE after a chain is freed when it was of the chain, and otherwise as before. -/
theorem freeBlocks_get (alloc : Vector AllocEntry 256) (blocks : List BlockIx) (b : BlockIx) :
    (freeBlocks alloc blocks)[b] = if b ∈ blocks then .free else alloc[b] := by
  induction blocks generalizing alloc with
  | nil => simp [freeBlocks]
  | cons first rest ih =>
    have unfolded : freeBlocks alloc (first :: rest) = freeBlocks (alloc.set first .free) rest := rfl
    rw [unfolded, ih, get_set]
    by_cases hrest : b ∈ rest
    · simp [hrest]
    · simp [hrest, eq_comm]

theorem freeBlocks_eq_ofFn (alloc : Vector AllocEntry 256) (blocks : List BlockIx) :
    freeBlocks alloc blocks = Vector.ofFn fun b => if b ∈ blocks then .free else alloc[b] :=
  table_ext fun b => by rw [freeBlocks_get, get_ofFn]

/-! ## Records written with their due projected (R14, R16) -/

/-- The record that a reprojection writes: its due is projected with base F (R53). -/
def State.projected (s : State) (r : Element) : Element :=
  { r with due := project r.wear r.rate r.limit s.lastFolded }

/-- A reprojection writes the record with its new due, places an ACTIVE element, and is a staleness event (R16). -/
theorem State.reproject_eq (s : State) (e : ElementIx) (r : Element) :
    s.reproject e r = staleEvent r.machine
      { s with
        elements := s.elements.set e (s.projected r)
        queues :=
          if r.state = .active then s.queues.set r.machine (s.queues[r.machine].place e (s.projected r).due)
          else s.queues } := by
  by_cases hactive : r.state = .active
  · simp only [State.reproject, if_pos hactive]
    rfl
  · simp only [State.reproject, if_neg hactive]
    rfl

@[simp] theorem State.reproject_elements_same (s : State) (e : ElementIx) (r : Element) :
    (s.reproject e r).elements[e] = s.projected r := by
  rw [State.reproject_eq, (staleEvent_frame _ _).1]
  exact get_set_same _ _ _

/-! ## The taken requests -/

/-- A taken ELEMENT_VACATE in one update of the state (R11). -/
theorem vacate_eq (e : ElementIx) (r : Element) (s : State) :
    vacate e r () s =
      (staleEvent r.machine
        { s with
          elements := s.elements.set e r.vacated
          queues := s.queues.set r.machine (s.queues[r.machine].remove e)
          plans := s.plans.set r.machine (s.plans[r.machine].without e)
          pool :=
            { s.pool with
              alloc := Vector.ofFn fun b =>
                if b ∈ chainOf s.pool.alloc r.head then .free else s.pool.alloc[b] } },
        { status := .ok, body := halfBytes e.val ++ [r.generation] }) := by
  rw [← freeBlocks_eq_ofFn]
  rfl

/-- The reply of a suspend or a resume, from the record as the request left it. -/
theorem tenancyAnswer_eq {e : ElementIx} {s : State} {r : Element} (h : s.elements[e] = r) :
    tenancyAnswer e s = { status := .ok, body := r.state.code :: dueBytes r.due } := by
  rw [tenancyAnswer, h]

/-- ELEMENT_SUSPEND of an ACTIVE element (R13). -/
theorem suspend_of_active {r : Element} (h : r.state = .active) (e : ElementIx) (s : State) :
    suspend e r () s =
      (staleEvent r.machine
        { s with
          elements := s.elements.set e { r with state := .suspended }
          queues := s.queues.set r.machine (s.queues[r.machine].remove e) },
        { status := .ok, body := 2#8 :: dueBytes r.due }) := by
  have written : (staleEvent r.machine
      ((s.write e { r with state := .suspended }).remove r.machine e)).elements[e] =
        { r with state := .suspended } := by
    simp
  simp only [suspend, h, tenancyAnswer_eq written]
  rfl

/-- ELEMENT_SUSPEND of a SUSPENDED element only reports (R13). -/
theorem suspend_of_suspended {e : ElementIx} {s : State} (h : s.elements[e].state = .suspended) :
    suspend e s.elements[e] () s = (s, { status := .ok, body := 2#8 :: dueBytes s.elements[e].due }) := by
  simp only [suspend, tenancyAnswer, h]
  rfl

/-- ELEMENT_RESUME of a SUSPENDED element (R14). -/
theorem resume_of_suspended {r : Element} (h : r.state = .suspended) (e : ElementIx) (s : State) :
    let due := project r.wear r.rate r.limit s.lastFolded
    resume e r () s =
      (staleEvent r.machine
        { s with
          elements := s.elements.set e { r with state := .active, due := due }
          queues := s.queues.set r.machine (s.queues[r.machine].place e due) },
        { status := .ok, body := 1#8 :: dueBytes due }) := by
  simp only [resume, h, tenancyAnswer_eq (State.reproject_elements_same s e _)]
  rw [State.reproject_eq]
  rfl

/-- ELEMENT_RESUME of an ACTIVE element only reports (R14). -/
theorem resume_of_active {e : ElementIx} {s : State} (h : s.elements[e].state = .active) :
    resume e s.elements[e] () s = (s, { status := .ok, body := 1#8 :: dueBytes s.elements[e].due }) := by
  simp only [resume, tenancyAnswer, h]
  rfl

/-- A taken LIMITS_SET stores its values, P clamped, and reprojects the record (R15, R16). -/
theorem setLimits_eq (e : ElementIx) (r : Element) (v : LimitValues) (s : State) :
    let planAt := clampPlan v.planAt v.limit
    let due := project r.wear r.rate v.limit s.lastFolded
    setLimits e r v s =
      (staleEvent r.machine
        { s with
          elements := s.elements.set e
            { r with planAt := planAt, limit := v.limit, rateLow := v.rateLow, rateHigh := v.rateHigh, due := due }
          queues :=
            if r.state = .active then s.queues.set r.machine (s.queues[r.machine].place e due)
            else s.queues },
        { status := if planAt = v.planAt then .ok else .clamped
          body := bytes32 planAt ++ bytes32 v.limit ++ bytes16 v.rateLow ++ bytes16 v.rateHigh ++ dueBytes due }) := by
  have status : okOrClamped (clampPlan v.planAt v.limit != v.planAt) =
      if clampPlan v.planAt v.limit = v.planAt then .ok else .clamped := by
    by_cases h : clampPlan v.planAt v.limit = v.planAt <;> simp [okOrClamped, h]
  simp only [setLimits, State.reproject_elements_same, status]
  rw [State.reproject_eq]
  rfl

/-- Arguments that LIMITS_SET accepts hold a rate window in range (check 2 of Table 1-5). -/
theorem limitsArgs_rateWindow {payload : List Byte} {e : ElementIx} {g : Generation} {v : LimitValues}
    (h : limitsArgs payload = some (e, g, v)) : v.rateHigh = 0 ∨ v.rateLow ≤ v.rateHigh := by
  unfold limitsArgs at h
  split at h
  · split at h
    · rename_i hok
      cases h
      simpa [rateWindowOk] using hok
    · cases h
  · cases h

theorem HitFlag.bit_lt (f : HitFlag) : f.bit < 5 := by cases f <;> decide

/-- Clearing the named flags, flag by flag (R17). -/
theorem hasFlag_cleared (flags named : FlagSet) (f : HitFlag) :
    hasFlag (flags &&& ~~~named) f = (hasFlag flags f && !hasFlag named f) := by
  simp [hasFlag, f.bit_lt]

/-! ## ELEMENT_READ (R18) -/

/-- ELEMENT_READ has no check on role, binding or generation (R18). -/
theorem exec_elementRead_ready {s : State} (h : s.phase = .ready) (p : Port) (payload : List Byte) :
    exec (.elementRead p payload) s = .next (s.answer p 0x96#8 (elementAnswer payload s)) :=
  takeRequest_ready h p .elementRead (readOnly (elementAnswer payload))

/-- A two-byte field that was read from its bytes spells them again (R170). -/
theorem halfBytes_be16 (hi lo : Byte) : halfBytes (be16 hi lo).toNat = [hi, lo] := by
  simp only [halfBytes, bytes16, be16, BitVec.ofNat_toNat, BitVec.setWidth_eq,
    BitVec.extractLsb'_append_eq_left, BitVec.extractLsb'_append_eq_right]

theorem elementArg_in_range {hi lo : Byte} {e : ElementIx} (h : (be16 hi lo).toNat = e.val) :
    elementArg hi lo = some e := by
  simp only [elementArg, indexArg, h, e.isLt, dif_pos]

theorem elementArg_out_of_range {hi lo : Byte} (h : 512 ≤ (be16 hi lo).toNat) : elementArg hi lo = none :=
  dif_neg (by omega)

/-- An index in range is answered with its record. -/
theorem elementAnswer_in_range {hi lo : Byte} {e : ElementIx} (h : (be16 hi lo).toNat = e.val) (s : State) :
    elementAnswer [hi, lo] s = { status := .ok, body := elementBytes e s.elements[e] } := by
  simp only [elementAnswer, elementReadArgs, elementArg_in_range h]

theorem elementReadArgs_of_length {payload : List Byte} (h : payload.length ≠ 2) :
    elementReadArgs payload = none := by
  unfold elementReadArgs
  split
  · exact absurd rfl h
  · rfl

/-- Arguments out of range, or of another length, are answered BAD_ARG (R18, R162). -/
theorem elementAnswer_badArg {payload : List Byte} (h : elementReadArgs payload = none) (s : State) :
    elementAnswer payload s = { status := .badArg, body := [] } := by
  simp only [elementAnswer, h]
  rfl

/-- A VACANT record reports 0 after its generation (R18). -/
theorem elementBytes_of_vacant {r : Element} (h : r.state = .vacant) (e : ElementIx) :
    elementBytes e r = halfBytes e.val ++ [0#8, r.generation] ++ List.replicate 39 0#8 := by
  simp only [elementBytes, h]
  rfl

theorem ElementState.code_of_defined {st : ElementState} (h : st ≠ .vacant) :
    st.code = if st = .active then 1#8 else 2#8 := by
  cases st with
  | vacant => exact absurd rfl h
  | active => rfl
  | suspended => rfl

theorem ElementKind.code_eq (k : ElementKind) : k.code = if k = .roller then 0#8 else 1#8 := by
  cases k <;> rfl

/-- The record of a defined element, field by field in the order of Table 9-6. -/
theorem elementBytes_of_defined {r : Element} (h : r.state ≠ .vacant) (e : ElementIx) :
    elementBytes e r = halfBytes e.val ++
      ([r.state.code, r.generation, r.kind.code, byteOf r.machine.val, byteOf r.zone.val, r.duty, r.beltRate] ++
        bytes32 r.wear ++ [byteOf r.residue.val] ++ bytes32 r.rate ++ bytes32 r.planAt ++ bytes32 r.limit ++
        bytes16 r.rateLow ++ bytes16 r.rateHigh ++ [r.flags.setWidth 8, boolByte r.limitLogged] ++
        dueBytes r.due ++ bytes32 r.start ++ headBytes r.head) := by
  cases hstate : r.state with
  | vacant => exact absurd hstate h
  | active => simp [elementBytes, hstate]
  | suspended => simp [elementBytes, hstate]

/-! ## The obligations -/

/-- Settles O5: the checks pass, and `vacate_eq` says what the block then does. -/
theorem elementVacateEndsTheTenancy : Obligations.ElementVacateEndsTheTenancy := by
  intro s p payload e g h hargs
  rw [exec_elementVacate_taken h hargs, vacate_eq, ← h.current]
  rfl

/-- Settles O8: the flags left are those of the record without the named ones. -/
theorem hitsAckClearsTheNamedFlags : Obligations.HitsAckClearsTheNamedFlags := by
  intro s p payload e g named h hargs
  exact ⟨s.elements[e].flags &&& ~~~named, hasFlag_cleared _ _, exec_hitsAck_taken h hargs⟩

/-- Settles O6, request by request and state by state. -/
theorem suspendAndResumeMoveTheElement : Obligations.SuspendAndResumeMoveTheElement := by
  intro s p payload e g h hargs
  refine ⟨fun hactive => ⟨?_, ?_⟩, fun hsuspended => ⟨?_, ?_⟩⟩
  · rw [exec_elementSuspend_taken h hargs, suspend_of_active hactive]
  · rw [exec_elementResume_taken h hargs, resume_of_active hactive]
  · rw [exec_elementSuspend_taken h hargs, suspend_of_suspended hsuspended]
  · rw [exec_elementResume_taken h hargs, resume_of_suspended hsuspended]

/-- Settles O7: the argument check gives the rate window, `setLimits_eq` the update. -/
theorem limitsSetStoresAndReprojects : Obligations.LimitsSetStoresAndReprojects := by
  intro s p payload e g v h hargs
  refine ⟨limitsArgs_rateWindow hargs, ?_⟩
  rw [exec_limitsSet_taken h hargs, setLimits_eq]
  rfl

/-- Settles O9: an index in range by the state of its record, then the two ways to be out of range. -/
theorem elementReadReturnsTheRecord : Obligations.ElementReadReturnsTheRecord := by
  intro s p i1 i0 hready
  refine ⟨fun e he => ⟨fun hvacant => ?_, fun hdefined => ?_⟩, fun hindex => ?_, fun payload hlength => ?_⟩
  · rw [exec_elementRead_ready hready, elementAnswer_in_range he, elementBytes_of_vacant hvacant, ← he,
      halfBytes_be16]
    rfl
  · rw [exec_elementRead_ready hready, elementAnswer_in_range he, elementBytes_of_defined hdefined, ← he,
      halfBytes_be16, ElementState.code_of_defined hdefined, ElementKind.code_eq]
    cases s.elements[e].due <;> cases s.elements[e].head <;> rfl
  · rw [exec_elementRead_ready hready, elementAnswer_badArg (payload := [i1, i0]) (elementArg_out_of_range hindex)]
  · rw [exec_elementRead_ready hready, elementAnswer_badArg (elementReadArgs_of_length hlength)]

end Sys2Proof.Machine

/-! # Proofs: passage tallies and the tally banks (chapter 2) -/

namespace Sys2Proof.Machine

/-! ## When a report is taken -/

/-- The checks of Table 2-3 all pass, so the report acts on the machine it names (R23). -/
theorem reportChecks_of_takesReport {α : Type} {s : State} {p : Port} {m : MachineId}
    (h : s.takesReport p m) (x : α) (act : MachineId → α → State → State × Answer) :
    reportChecks p (some (m, x)) act s = act m x s := by
  obtain ⟨_, hrole, hbound, hnotHeld⟩ := h
  have hfree : s.reportsHeld = false := by simpa [State.reportsHeld] using hnotHeld
  simp only [reportChecks, hrole, hbound, hfree, Bool.true_eq_false, Bool.false_eq_true, if_false]

theorem exec_passReport_taken {s : State} {p : Port} {payload : List Byte} {m : MachineId}
    {entries : List PassEntry} (h : s.takesReport p m) (hargs : passArgs payload = some (m, entries)) :
    exec (.passReport p payload) s =
      .next ((passReport m entries s).1.answer p 0xA0#8 (passReport m entries s).2) := by
  change takeRequest p .passReport (reportChecks p (passArgs payload) passReport) s = _
  rw [hargs, takeRequest_ready h.ready, reportChecks_of_takesReport h]
  rfl

/-! ## The entries of a report -/

/-- An entry that passes the argument check has a count of at least 1 (Table 9-6). -/
theorem passEntries_count_pos {bytes : List Byte} {entries : List PassEntry}
    (h : passEntries bytes = some entries) : ∀ n ∈ entries, 0 < n.count.toNat := by
  induction bytes using passEntries.induct generalizing entries with
  | case1 =>
    cases h
    simp
  | case2 z c rest zone cls more hmore hcls hzone ih => simp [passEntries, hzone, hcls, hmore] at h
  | case3 z c n rest zone cls more hmore hcls hzone hcount ih =>
    simp only [passEntries, hzone, hcls, hmore, if_neg hcount, Option.some.injEq] at h
    subst h
    have hpos : 0 < n.toNat := Nat.pos_of_ne_zero fun hn => hcount (BitVec.eq_of_toNat_eq hn)
    exact List.forall_mem_cons.2 ⟨hpos, ih hmore⟩
  | case4 z c n rest hnone ih =>
    rw [passEntries] at h
    split at h
    · rename_i hzone hcls hmore
      exact (hnone _ _ _ hzone hcls hmore).elim
    · cases h
  | case5 bytes hempty hshort => simp [passEntries] at h

theorem passArgs_count_pos {payload : List Byte} {m : MachineId} {entries : List PassEntry}
    (h : passArgs payload = some (m, entries)) : ∀ n ∈ entries, 0 < n.count.toNat := by
  unfold passArgs at h
  split at h
  · split at h
    · split at h
      · cases h
        exact passEntries_count_pos ‹_›
      · cases h
    · cases h
  · cases h

/-- What an entry adds to the cell of a zone and class (R24). -/
def PassEntry.adds (n : PassEntry) (z : Zone) (c : ItemClass) : Nat :=
  if n.zone = z ∧ n.itemClass = c then n.count.toNat else 0

/-- What the entries add together to the cell of a zone and class (R24). -/
def passSum (entries : List PassEntry) (z : Zone) (c : ItemClass) : Nat :=
  (entries.map fun n => n.adds z c).sum

@[simp] theorem passSum_nil (z : Zone) (c : ItemClass) : passSum [] z c = 0 := rfl

@[simp] theorem passSum_cons (n : PassEntry) (rest : List PassEntry) (z : Zone) (c : ItemClass) :
    passSum (n :: rest) z c = n.adds z c + passSum rest z c := rfl

@[simp] theorem PassEntry.adds_own (n : PassEntry) : n.adds n.zone n.itemClass = n.count.toNat :=
  if_pos ⟨rfl, rfl⟩

theorem PassEntry.adds_le_passSum {n : PassEntry} {entries : List PassEntry} (h : n ∈ entries)
    (z : Zone) (c : ItemClass) : n.adds z c ≤ passSum entries z c :=
  List.le_sum_of_mem (List.mem_map_of_mem h)

/-! ## One entry added (R21, R22) -/

theorem satHalf_toNat (n : Nat) : (satHalf n).toNat = min n 65535 := by
  have hbound : min n 65535 < 2 ^ 16 := by omega
  simp only [satHalf, Config.maxHalf, BitVec.toNat_ofNat, Nat.mod_eq_of_lt hbound]

theorem saturates_iff (cell : Half) (count : Byte) :
    saturates cell count = true ↔ 65535 < cell.toNat + count.toNat :=
  decide_eq_true_iff

theorem MachineTally.pass_zones (t : MachineTally) (n : PassEntry) (z : Zone) :
    (t.pass n).zones[z] = if n.zone = z then t.zones[z].add n.itemClass n.count else t.zones[z] := by
  by_cases hz : n.zone = z
  · subst hz
    rw [if_pos rfl]
    exact get_set_same _ _ _
  · rw [if_neg hz]
    exact get_set_other _ _ hz

theorem ZoneTally.add_cells (t : ZoneTally) (c d : ItemClass) (count : Byte) :
    (t.add c count).cells[d] = if c = d then satHalf (t.cells[d].toNat + count.toNat) else t.cells[d] := by
  by_cases hc : c = d
  · subst hc
    rw [if_pos rfl]
    exact get_set_same _ _ _
  · rw [if_neg hc]
    exact get_set_other _ _ hc

/-- Every cell after an entry is its true sum, saturated (R21). -/
theorem MachineTally.pass_cell (t : MachineTally) (n : PassEntry) (z : Zone) (c : ItemClass) :
    (t.pass n).zones[z].cells[c].toNat = min (t.zones[z].cells[c].toNat + n.adds z c) 65535 := by
  have hbound := t.zones[z].cells[c].isLt
  rw [MachineTally.pass_zones]
  by_cases hz : n.zone = z
  · rw [if_pos hz, ZoneTally.add_cells]
    by_cases hc : n.itemClass = c
    · rw [if_pos hc, satHalf_toNat, PassEntry.adds, if_pos ⟨hz, hc⟩]
    · rw [if_neg hc, PassEntry.adds, if_neg fun h => hc h.2]
      omega
  · rw [if_neg hz, PassEntry.adds, if_neg fun h => hz h.1]
    omega

/-- A clip marker after an entry is set when it was set, or when the true sum of a cell of the zone exceeds 65,535
(R22). -/
theorem MachineTally.pass_clip (t : MachineTally) (n : PassEntry) (z : Zone) :
    (t.pass n).zones[z].clip = true ↔ t.zones[z].clip = true ∨
      ∃ c : ItemClass, 65535 < t.zones[z].cells[c].toNat + n.adds z c := by
  have hquiet : ∀ c, n.adds z c = 0 → ¬ 65535 < t.zones[z].cells[c].toNat + n.adds z c := fun c hc => by
    have hbound := t.zones[z].cells[c].isLt
    omega
  rw [MachineTally.pass_zones]
  by_cases hz : n.zone = z
  · subst hz
    rw [if_pos rfl]
    simp only [ZoneTally.add, Bool.or_eq_true, saturates_iff]
    refine or_congr_right ⟨fun h => ⟨n.itemClass, by rwa [PassEntry.adds_own]⟩, fun ⟨c, h⟩ => ?_⟩
    by_cases hc : n.itemClass = c
    · subst hc
      rwa [PassEntry.adds_own] at h
    · exact absurd h (hquiet c (if_neg fun hown => hc hown.2))
  · rw [if_neg hz]
    exact ⟨.inl, fun h => h.resolve_right fun ⟨c, hc⟩ => hquiet c (if_neg fun hown => hz hown.1) hc⟩

/-! ## All entries added in turn (R24) -/

theorem MachineTally.passAll_runTime (t : MachineTally) (entries : List PassEntry) :
    (t.passAll entries).1.runTime = t.runTime := by
  induction entries generalizing t with
  | nil => rfl
  | cons n rest ih => exact ih (t.pass n)

theorem MachineTally.passAll_runClip (t : MachineTally) (entries : List PassEntry) :
    (t.passAll entries).1.runClip = t.runClip := by
  induction entries generalizing t with
  | nil => rfl
  | cons n rest ih => exact ih (t.pass n)

/-- Saturating at each entry is saturating once at the end (R21). -/
theorem MachineTally.passAll_cell (t : MachineTally) (entries : List PassEntry) (z : Zone) (c : ItemClass) :
    (t.passAll entries).1.zones[z].cells[c].toNat =
      min (t.zones[z].cells[c].toNat + passSum entries z c) 65535 := by
  induction entries generalizing t with
  | nil =>
    have hbound := t.zones[z].cells[c].isLt
    simp only [MachineTally.passAll, passSum_nil]
    omega
  | cons n rest ih =>
    simp only [MachineTally.passAll, ih, MachineTally.pass_cell, passSum_cons]
    omega

/-- A marker is set by the first entry that takes a true sum above 65,535, and stays set (R22). -/
theorem MachineTally.passAll_clip (t : MachineTally) (entries : List PassEntry) (z : Zone) :
    (t.passAll entries).1.zones[z].clip = true ↔ t.zones[z].clip = true ∨
      ∃ c : ItemClass, 65535 < t.zones[z].cells[c].toNat + passSum entries z c := by
  induction entries generalizing t with
  | nil =>
    have hquiet : ¬ ∃ c : ItemClass, 65535 < t.zones[z].cells[c].toNat + passSum [] z c := fun ⟨c, h⟩ => by
      have hbound := t.zones[z].cells[c].isLt
      rw [passSum_nil] at h
      omega
    simp only [MachineTally.passAll, hquiet, or_false]
  | cons n rest ih =>
    have hcell : ∀ c : ItemClass, 65535 < t.zones[z].cells[c].toNat + passSum (n :: rest) z c ↔
        65535 < t.zones[z].cells[c].toNat + n.adds z c ∨
          65535 < (t.pass n).zones[z].cells[c].toNat + passSum rest z c := fun c => by
      rw [MachineTally.pass_cell, passSum_cons]
      omega
    simp only [MachineTally.passAll, ih, MachineTally.pass_clip, hcell, exists_or, or_assoc]

/-! ## The entries whose addition saturated (R24) -/

/-- With entry `i` and those before it, the true sum of the entry's own cell exceeds 65,535. -/
def MachineTally.exceedsAt (t : MachineTally) (entries : List PassEntry) (i : Nat) : Bool :=
  match entries[i]? with
  | some n => 65535 < t.zones[n.zone].cells[n.itemClass].toNat + passSum (entries.take (i + 1)) n.zone n.itemClass
  | none => false

theorem MachineTally.exceedsAt_iff {entries : List PassEntry} {i : Nat} {n : PassEntry} (h : entries[i]? = some n)
    (t : MachineTally) : t.exceedsAt entries i = true ↔
      65535 < t.zones[n.zone].cells[n.itemClass].toNat + passSum (entries.take (i + 1)) n.zone n.itemClass := by
  simp only [MachineTally.exceedsAt, h, decide_eq_true_iff]

theorem MachineTally.exceedsAt_first (t : MachineTally) (n : PassEntry) (rest : List PassEntry) :
    t.exceedsAt (n :: rest) 0 = saturates t.zones[n.zone].cells[n.itemClass] n.count := by
  rw [Bool.eq_iff_iff, MachineTally.exceedsAt_iff rfl, saturates_iff]
  simp

/-- True sums may start from the bank as the first entry left it: where that entry saturated its cell, each later entry
for the cell exceeds 65,535 on either reckoning, because its count is at least 1. -/
theorem MachineTally.exceedsAt_later (t : MachineTally) (n : PassEntry) {rest : List PassEntry}
    (hpos : ∀ x ∈ rest, 0 < x.count.toNat) (i : Nat) :
    t.exceedsAt (n :: rest) (i + 1) = (t.pass n).exceedsAt rest i := by
  cases hx : rest[i]? with
  | none => simp only [MachineTally.exceedsAt, List.getElem?_cons_succ, hx]
  | some x =>
    have hmem : x ∈ rest.take (i + 1) := by
      rw [List.take_add_one, hx]
      simp
    have hown : 0 < passSum (rest.take (i + 1)) x.zone x.itemClass := by
      have hle := PassEntry.adds_le_passSum hmem x.zone x.itemClass
      have hcount := hpos x (List.mem_of_getElem? hx)
      rw [PassEntry.adds_own] at hle
      omega
    have hlater : (n :: rest)[i + 1]? = some x := hx
    rw [Bool.eq_iff_iff, MachineTally.exceedsAt_iff hlater, MachineTally.exceedsAt_iff hx, List.take_succ_cons,
      passSum_cons, MachineTally.pass_cell]
    omega

theorem MachineTally.passAll_saturated (t : MachineTally) {entries : List PassEntry}
    (hpos : ∀ n ∈ entries, 0 < n.count.toNat) :
    (t.passAll entries).2 = ((List.range entries.length).filter (t.exceedsAt entries)).length := by
  induction entries generalizing t with
  | nil => rfl
  | cons n rest ih =>
    obtain ⟨_, hrest⟩ := List.forall_mem_cons.1 hpos
    have htail : t.exceedsAt (n :: rest) ∘ Nat.succ = (t.pass n).exceedsAt rest :=
      funext (t.exceedsAt_later n hrest)
    rw [MachineTally.passAll, ih _ hrest, ← List.countP_eq_length_filter, ← List.countP_eq_length_filter,
      List.length_cons, List.range_succ_eq_map, List.countP_cons, List.countP_map, htail,
      MachineTally.exceedsAt_first, Bool.toNat, Bool.cond_eq_ite]

/-! ## The obligation -/

/-- Settles O12: the bank after the report is `passAll` of the bank before it, and the argument check makes every count
at least 1, so that the entries that saturate are those whose true sum exceeds 65,535. -/
theorem passReportAddsToTheActiveBank : Obligations.PassReportAddsToTheActiveBank := by
  intro s p payload m entries h hargs before sumOf
  exact ⟨(before.passAll entries).1, (before.passAll entries).2, before.passAll_cell entries,
    before.passAll_clip entries, before.passAll_runTime entries, before.passAll_runClip entries,
    before.passAll_saturated (passArgs_count_pos hargs), exec_passReport_taken h hargs⟩

end Sys2Proof.Machine

/-! # Proofs: reckoning, the wear arithmetic (chapter 3) -/

namespace Sys2Proof.Machine

/-! ## Whole numbers stored in 32 bits -/

theorem satWord_toNat (n : Nat) : (satWord n).toNat = min n 4294967295 := by
  have hbound : min n 4294967295 < 2 ^ 32 := by omega
  simp only [satWord, Config.maxWord, BitVec.toNat_ofNat, Nat.mod_eq_of_lt hbound]

/-! ## The projection of due (R52) -/

/-- The quotient of the fourth case before its cap: (L - wear) x 256 / R, rounded up (R52). -/
def uncappedQuotient (wear rate limit : Word) : Nat := ((limit.toNat - wear.toNat) * 256) ⌈/⌉ rate.toNat

theorem quotient_eq_min (wear rate limit : Word) :
    quotient wear rate limit = min (uncappedQuotient wear rate limit) 65535 := by
  rw [uncappedQuotient, Nat.ceilDiv_eq_add_pred_div]
  rfl

/-- A whole number is at least the quotient exactly when its product with R reaches (L - wear) x 256. -/
theorem uncappedQuotient_le_iff {rate : Word} (hrate : rate ≠ 0) (wear limit : Word) (n : Nat) :
    uncappedQuotient wear rate limit ≤ n ↔ (limit.toNat - wear.toNat) * 256 ≤ n * rate.toNat := by
  rw [uncappedQuotient, ceilDiv_le_iff_le_mul (BitVec.toNat_pos_of_ne_zero hrate), Nat.mul_comm rate.toNat]

section Cases

variable {wear rate limit : Word} (base : Interval)

theorem project_without_limit (hlimit : limit = 0) : project wear rate limit base = none := if_pos hlimit

theorem project_without_rate (hlimit : limit ≠ 0) (hrate : rate = 0) : project wear rate limit base = none := by
  rw [project, if_neg hlimit, if_pos hrate]

theorem project_limit_reached (hlimit : limit ≠ 0) (hrate : rate ≠ 0) (hreached : limit ≤ wear) :
    project wear rate limit base = some base := by
  rw [project, if_neg hlimit, if_neg hrate, if_pos hreached]

theorem project_below_limit (hlimit : limit ≠ 0) (hrate : rate ≠ 0) (hbelow : wear < limit) :
    project wear rate limit base = some (satWord (base.toNat + quotient wear rate limit)) := by
  rw [project, if_neg hlimit, if_neg hrate, if_neg (BitVec.not_le.2 hbelow)]

end Cases

/-- A due is the base, or the base plus the capped quotient, saturated (R52). -/
theorem project_eq_some {wear rate limit : Word} {base d : Interval} (h : project wear rate limit base = some d) :
    d = base ∨ d = satWord (base.toNat + quotient wear rate limit) := by
  unfold project at h
  split_ifs at h
  · exact .inl (Option.some.inj h).symm
  · exact .inr (Option.some.inj h).symm

/-- The cap of the quotient bounds every due, and the base fits in 32 bits, so that saturation stays above it. -/
theorem project_bounds {wear rate limit : Word} {base d : Interval} (h : project wear rate limit base = some d) :
    base ≤ d ∧ d.toNat ≤ base.toNat + 65535 := by
  rw [BitVec.le_def]
  rcases project_eq_some h with rfl | rfl
  · omega
  · have hbase := base.isLt
    rw [satWord_toNat, quotient_eq_min]
    omega

/-! ## Stage 1 of completion (R58, R59, R60) -/

/-- A stage of completion in its turn acts on the state with the fold's record (R58). -/
theorem completionStage_in_turn {s : State} {run : FoldRun} {stage : FoldStage} (hengine : s.engine = .fold run)
    (hstage : run.stage = stage) (act : FoldRun → State → State) :
    completionStage stage act s = .next (act run s) := by
  simp only [completionStage, hengine, if_pos hstage]

theorem exec_foldCompletion_in_turn {s : State} {run : FoldRun} (hengine : s.engine = .fold run)
    (hstage : run.stage = .store) : exec .foldCompletion s = .next (storeFold run s) :=
  completionStage_in_turn hengine hstage storeFold

/-- The fold of an interval empties exactly the slots whose window ends by the interval (R60). -/
theorem expireWindow_ne_iff (interval : Interval) (w : Option Window) :
    w ≠ expireWindow interval w ↔ ∃ v, w = some v ∧ v.finish ≤ interval := by
  cases w with
  | none => simp [expireWindow]
  | some v => by_cases hover : v.finish ≤ interval <;> simp [expireWindow, hover]

/-- A machine is marked expired exactly when one of its windows ends by the interval (R60). -/
theorem losesWindow_iff (interval : Interval) (slots : Vector (Option Window) 8) :
    losesWindow interval slots = true ↔
      ∃ (w : WindowSlot) (v : Window), slots[w] = some v ∧ v.finish ≤ interval := by
  simp only [losesWindow, List.any_eq_true, List.mem_finRange, true_and, bne_iff_ne, expireWindow_ne_iff]

theorem sum_toNat_eq_length_filter {α : Type} (p : α → Bool) (l : List α) :
    (l.map fun x => (p x).toNat).sum = (l.filter p).length := by
  induction l with
  | nil => rfl
  | cons x rest ih => cases hx : p x <;> simp [hx, ih, Nat.add_comm]

/-- Table 3-9 counts the zones with their marker set, and the run marker as one more. -/
theorem MachineTally.markers_eq (t : MachineTally) :
    t.markers = ((List.finRange 16).filter fun z => t.zones[z].clip).length + if t.runClip then 1 else 0 := by
  rw [MachineTally.markers, sum_toNat_eq_length_filter, Bool.toNat, Bool.cond_eq_ite]

/-! ## The obligations -/

/-- Settles O21: the fourth case's quotient is the least whole number whose product with R reaches (L - wear) x 256, so
that it is at least 1 and one less falls short. -/
theorem projectionTakesItsFourCases : Obligations.ProjectionTakesItsFourCases := by
  intro wear rate limit base
  refine ⟨project_without_limit base, project_without_rate base, project_limit_reached base,
    fun hlimit hrate hbelow => ?_, fun _ => project_bounds⟩
  have hleast := uncappedQuotient_le_iff hrate wear limit
  have hgap : wear.toNat < limit.toNat := BitVec.lt_def.1 hbelow
  have hone : 1 ≤ uncappedQuotient wear rate limit := by
    by_contra hzero
    have hreach := (hleast 0).1 (by omega)
    omega
  refine ⟨uncappedQuotient wear rate limit, hone, ?_, (hleast _).1 le_rfl, _,
    project_below_limit base hlimit hrate hbelow, ?_⟩
  · rw [← not_le, ← hleast]
    omega
  · rw [satWord_toNat, quotient_eq_min]

/-- Settles O23: the stage is `storeFold`, which empties each window slot by `expireWindow`, marks each machine by
`losesWindow` and counts the closed bank's markers by `bankMarkers`. -/
theorem foldCompletionStoresTheFold : Obligations.FoldCompletionStoresTheFold := by
  intro s run hengine hstage closed
  refine ⟨s.windows.map (Vector.map (expireWindow run.interval)),
    s.windows.map (losesWindow run.interval), bankMarkers closed, fun m w => ?_, fun m => ?_, ?_,
    exec_foldCompletion_in_turn hengine hstage⟩
  · rw [get_map, get_map]
    rfl
  · rw [get_map, losesWindow_iff]
  · simp only [bankMarkers, MachineTally.markers_eq]

end Sys2Proof.Machine

/-! # Proofs: service windows and the planning pass (chapter 6) -/

namespace Sys2Proof.Machine

/-! ## WINDOW_SET and WINDOW_DROP check by check (Table 6-2) -/

section WindowChecks

variable {s : State} {p : Port} {payload : List Byte}

theorem exec_windowSet_ready {t : State} {a : Answer} (hready : s.phase = .ready)
    (hchecks : windowSetChecks p payload s = (t, a)) :
    exec (.windowSet p payload) s = .next (t.answer p 0xC0#8 a) := by
  change takeRequest p .windowSet (windowSetChecks p payload) s = _
  rw [takeRequest_ready hready, hchecks]
  rfl

theorem exec_windowDrop_ready {t : State} {a : Answer} (hready : s.phase = .ready)
    (hchecks : windowDropChecks p payload s = (t, a)) :
    exec (.windowDrop p payload) s = .next (t.answer p 0xC1#8 a) := by
  change takeRequest p .windowDrop (windowDropChecks p payload) s = _
  rw [takeRequest_ready hready, hchecks]
  rfl

theorem windowSetChecks_without_role (hrole : s.settings.holds p .plan = false) :
    windowSetChecks p payload s = (s, refuse .denied) :=
  if_pos hrole

theorem windowDropChecks_without_role (hrole : s.settings.holds p .plan = false) :
    windowDropChecks p payload s = (s, refuse .denied) :=
  if_pos hrole

theorem windowSetChecks_badArgs (hrole : s.settings.holds p .plan = true) (hargs : windowSetArgs payload = none) :
    windowSetChecks p payload s = (s, refuse .badArg) := by
  simp only [windowSetChecks, hrole, hargs, Bool.true_eq_false, if_false]

theorem windowDropChecks_badArgs (hrole : s.settings.holds p .plan = true) (hargs : windowDropArgs payload = none) :
    windowDropChecks p payload s = (s, refuse .badArg) := by
  simp only [windowDropChecks, hrole, hargs, Bool.true_eq_false, if_false]

/-- With the role held and the arguments read, the end of the window is checked before the binding. -/
theorem windowSetChecks_of_args {m : MachineId} {w : WindowSlot} {v : Window}
    (hrole : s.settings.holds p .plan = true) (hargs : windowSetArgs payload = some (m, w, v)) :
    windowSetChecks p payload s =
      if v.finish < s.openInterval then (s, refuse .badArg)
      else if s.settings.binds p m = false then (s, refuse .denied)
      else windowSet m w v s := by
  simp only [windowSetChecks, hrole, hargs, Bool.true_eq_false, if_false]

/-- With the role held and the arguments read, only the binding is left to check. -/
theorem windowDropChecks_of_args {m : MachineId} {w : WindowSlot}
    (hrole : s.settings.holds p .plan = true) (hargs : windowDropArgs payload = some (m, w)) :
    windowDropChecks p payload s =
      if s.settings.binds p m = false then (s, refuse .denied) else windowDrop m w s := by
  simp only [windowDropChecks, hrole, hargs, Bool.true_eq_false, if_false]

end WindowChecks

/-! ## The taken requests (R101, R102) -/

/-- A capacity is stored as it was sent exactly when it is at most 32 (R101). -/
theorem clampCapacity_eq_self_iff (c : Byte) : clampCapacity c = c ↔ ¬ 32 < c.toNat := by
  unfold clampCapacity
  split
  · next habove =>
    have hne : (32 : Byte) ≠ c := by
      rintro rfl
      exact absurd habove (by decide)
    simp only [hne, habove, not_true_eq_false]
  · next hwithin => simp only [hwithin, not_false_eq_true]

theorem boolByte_isSome {α : Type} (o : Option α) [Decidable (o = none)] :
    boolByte o.isSome = if o = none then 0#8 else 1#8 := by
  cases o with
  | none => rw [if_pos rfl]; rfl
  | some x => rw [if_neg (Option.some_ne_none x)]; rfl

/-- A taken WINDOW_SET writes the slot whole, the capacity clamped, and is a staleness event (R101). -/
theorem windowSet_eq (m : MachineId) (w : WindowSlot) (v : Window) (s : State) :
    let stored : Window := { v with capacity := clampCapacity v.capacity }
    let t := staleEvent m { s with windows := s.windows.set m (s.windows[m].set w (some stored)) }
    windowSet m w v s =
      (t,
        { status := if 32 < v.capacity.toNat then .clamped else .ok
          body := [byteOf m.val, byteOf w.val] ++ bytes32 stored.start ++ bytes32 stored.finish ++
            [stored.capacity, if s.windows[m][w] = none then 0#8 else 1#8, t.plans[m].state.code] }) := by
  simp only [windowSet, clampCapacity_eq_self_iff, ite_not, boolByte_isSome]
  rfl

/-- WINDOW_DROP of an EMPTY slot only reports (R102). -/
theorem windowDrop_of_empty {m : MachineId} {w : WindowSlot} {s : State} (h : s.windows[m][w] = none) :
    windowDrop m w s =
      (s, { status := .ok, body := [byteOf m.val, byteOf w.val, 0#8, s.plans[m].state.code] }) := by
  simp only [windowDrop, h]
  rfl

/-- WINDOW_DROP of a HELD slot empties it and is a staleness event (R102). -/
theorem windowDrop_of_held {m : MachineId} {w : WindowSlot} {s : State} (h : s.windows[m][w] ≠ none) :
    let t := staleEvent m { s with windows := s.windows.set m (s.windows[m].set w none) }
    windowDrop m w s =
      (t, { status := .ok, body := [byteOf m.val, byteOf w.val, 1#8, t.plans[m].state.code] }) := by
  obtain ⟨v, hv⟩ := Option.ne_none_iff_exists'.1 h
  simp only [windowDrop, hv]
  rfl

/-! ## The obligation -/

/-- Settles O33: check by check in the order of Table 6-2, then `windowSet_eq` for the slot that is written, and
`windowDrop_of_empty` and `windowDrop_of_held` for the two states of a slot that is dropped. -/
theorem windowsAreSetAndDropped : Obligations.WindowsAreSetAndDropped := by
  intro s p payload hready
  refine ⟨fun hrole => ⟨exec_windowSet_ready hready (windowSetChecks_without_role hrole),
      exec_windowDrop_ready hready (windowDropChecks_without_role hrole)⟩,
    fun hrole => ⟨fun hargs => exec_windowSet_ready hready (windowSetChecks_badArgs hrole hargs),
      fun hargs => exec_windowDrop_ready hready (windowDropChecks_badArgs hrole hargs),
      fun m w v hargs => ?_, fun m w hargs => ?_⟩⟩
  · have hchecks := windowSetChecks_of_args hrole hargs
    refine ⟨fun hpast => ?_, fun hcurrent hunbound => ?_, fun hcurrent hbound => ?_⟩
    · exact exec_windowSet_ready hready (hchecks.trans (if_pos hpast))
    · rw [if_neg (BitVec.not_lt.2 hcurrent), if_pos hunbound] at hchecks
      exact exec_windowSet_ready hready hchecks
    · rw [if_neg (BitVec.not_lt.2 hcurrent), if_neg (by simp [hbound]), windowSet_eq] at hchecks
      exact exec_windowSet_ready hready hchecks
  · have hchecks := windowDropChecks_of_args hrole hargs
    refine ⟨fun hunbound => ?_, fun hbound hempty => ?_, fun hbound hheld => ?_⟩
    · exact exec_windowDrop_ready hready (hchecks.trans (if_pos hunbound))
    · rw [if_neg (by simp [hbound]), windowDrop_of_empty hempty] at hchecks
      exact exec_windowDrop_ready hready hchecks
    · rw [if_neg (by simp [hbound]), windowDrop_of_held hheld] at hchecks
      exact exec_windowDrop_ready hready hchecks

end Sys2Proof.Machine

/-! # Proofs: service posts and element history (chapter 7) -/

namespace Sys2Proof.Machine

/-! ## A record after an append (R126) -/

section Append

variable (s : State) (e : ElementIx) (h : HistoryRecord)

/-- After an append the element's record differs from the one before it in its history head alone. -/
theorem appendHistory_elements_same :
    (s.appendHistory e h).1.elements[e] =
      { s.elements[e] with head := (s.appendHistory e h).1.elements[e].head } := by
  obtain ⟨head, hwritten⟩ := appendHistory_elements s e h
  rw [hwritten, get_set_same]

theorem appendHistory_elements_eq :
    (s.appendHistory e h).1.elements =
      s.elements.set e { s.elements[e] with head := (s.appendHistory e h).1.elements[e].head } := by
  obtain ⟨head, hwritten⟩ := appendHistory_elements s e h
  rw [hwritten, get_set_same]

/-- A record written over the appended one leaves the other records as they were before the append. -/
theorem appendHistory_elements_set (x : Element) :
    (s.appendHistory e h).1.elements.set e x = s.elements.set e x := by
  rw [appendHistory_elements_eq, Vector.set_set]

/-- An append keeps F, the base of every projection (R53). -/
theorem appendHistory_projected (x : Element) : (s.appendHistory e h).1.projected x = s.projected x := by
  simp only [State.projected, State.appendHistory_frame]

/-- A reprojection after an append keeps, of what the append did, the pool and the attention (R125, R127). -/
theorem appendHistory_reproject (x : Element) :
    (s.appendHistory e h).1.reproject e x = staleEvent x.machine
      { (s.appendHistory e h).1 with
        elements := s.elements.set e (s.projected x)
        queues :=
          if x.state = .active then s.queues.set x.machine (s.queues[x.machine].place e (s.projected x).due)
          else s.queues } := by
  have hqueues : (s.appendHistory e h).1.queues = s.queues := by simp only [State.appendHistory_frame]
  rw [State.reproject_eq, appendHistory_projected, appendHistory_elements_set, hqueues]

theorem appendHistory_reproject_elements_same (x : Element) :
    ((s.appendHistory e h).1.reproject e x).elements[e] = s.projected x := by
  rw [State.reproject_elements_same, appendHistory_projected]

end Append

/-! ## The reply (R128) -/

/-- The reply of a taken post whose element's record is `r` afterwards (R128). -/
def postReply (e : ElementIx) (r : Element) (stored : Bool) : Answer :=
  { status := .ok
    body := bytes16 (BitVec.ofNat 16 e.val) ++ [r.generation] ++ bytes32 r.wear ++ dueBytes r.due ++
      [if stored then 0#8 else 1#8] }

theorem postAnswer_eq {s : State} {e : ElementIx} {r : Element} (h : s.elements[e] = r) (stored : Bool) :
    postAnswer e stored s = postReply e r stored := by
  rw [postAnswer, h]
  cases stored <;> rfl

/-! ## The taken forms -/

/-- A taken replacement reprojects the record of the new generation (R124, R125). -/
theorem postReplaced_eq (e : ElementIx) (a : PostArgs) (s : State) :
    let r := s.elements[e]
    let appended := s.appendHistory e
      { interval := s.openInterval, generation := r.generation + 1, wear := r.wear, body := .replaced a.note }
    let x := { r with head := appended.1.elements[e].head }.replaced s.openInterval
    postReplaced e r a s = (appended.1.reproject e x, postReply e (s.projected x) appended.2) := by
  simp only [postReplaced, postAnswer_eq (appendHistory_reproject_elements_same s e _ _)]
  rw [appendHistory_elements_same]

/-- A taken correction reprojects the record with the wear set (R127). -/
theorem postCorrected_eq (e : ElementIx) (a : PostArgs) (s : State) :
    let r := s.elements[e]
    let appended := s.appendHistory e
      { interval := s.openInterval, generation := r.generation, wear := r.wear
        body := .corrected a.corrected a.note }
    let x := { r with wear := a.corrected, residue := 0, head := appended.1.elements[e].head }
    postCorrected e r a s = (appended.1.reproject e x, postReply e (s.projected x) appended.2) := by
  simp only [postCorrected, postAnswer_eq (appendHistory_reproject_elements_same s e _ _)]
  rw [appendHistory_elements_same]

/-- A taken inspection is its append, and its reply carries the record as it was (R126). -/
theorem postInspected_eq (e : ElementIx) (a : PostArgs) (s : State) :
    let r := s.elements[e]
    let appended := s.appendHistory e
      { interval := s.openInterval, generation := r.generation, wear := r.wear, body := .inspected a.note }
    postInspected e r a s = (appended.1, postReply e r appended.2) := by
  simp only [postInspected, postAnswer_eq (appendHistory_elements_same s e _)]
  rfl

/-! ## What each taken post answers -/

section Taken

variable {s : State} {p : Port} {payload : List Byte} {a : PostArgs}

theorem postRequest_of_postArgs {form : PostForm} (hargs : postArgs form payload = some a) :
    postRequest form payload = some (a.index, a.generation, a) := by
  simp only [postRequest, hargs]

/-- A taken post of any form answers with what that form does to the record (R123). -/
theorem takeRequest_servicePost_taken {form : PostForm} (h : s.mayModify p .service a.index a.generation)
    (hargs : postArgs form payload = some a) (act : ElementIx → Element → PostArgs → State → State × Answer) :
    takeRequest p .servicePost (modifyElement p .service (postRequest form payload) act) s =
      .next ((act a.index s.elements[a.index] a s).1.answer p 0xD0#8 (act a.index s.elements[a.index] a s).2) := by
  rw [postRequest_of_postArgs hargs]
  exact takeRequest_of_mayModify h .servicePost a act

theorem exec_servicePostReplaced_taken (h : s.mayModify p .service a.index a.generation)
    (hargs : postArgs .replacement payload = some a) :
    exec (.servicePostReplaced p payload) s =
      .next ((postReplaced a.index s.elements[a.index] a s).1.answer p 0xD0#8
        (postReplaced a.index s.elements[a.index] a s).2) :=
  takeRequest_servicePost_taken h hargs postReplaced

theorem exec_servicePostInspected_taken (h : s.mayModify p .service a.index a.generation)
    (hargs : postArgs .inspection payload = some a) :
    exec (.servicePostInspected p payload) s =
      .next ((postInspected a.index s.elements[a.index] a s).1.answer p 0xD0#8
        (postInspected a.index s.elements[a.index] a s).2) :=
  takeRequest_servicePost_taken h hargs postInspected

theorem exec_servicePostCorrected_taken (h : s.mayModify p .service a.index a.generation)
    (hargs : postArgs .correction payload = some a) :
    exec (.servicePostCorrected p payload) s =
      .next ((postCorrected a.index s.elements[a.index] a s).1.answer p 0xD0#8
        (postCorrected a.index s.elements[a.index] a s).2) :=
  takeRequest_servicePost_taken h hargs postCorrected

end Taken

/-! ## The obligation -/

/-- Settles O37, form by form: an append changes no field of the record but its head, so that a replacement and a
correction reproject the record as it stood, and an inspection leaves it. -/
theorem servicePostsTakeTheirForms : Obligations.ServicePostsTakeTheirForms := by
  intro s p payload form a h hargs
  cases form with
  | replacement =>
    have htaken := exec_servicePostReplaced_taken h hargs
    rw [postReplaced_eq, appendHistory_reproject] at htaken
    exact htaken
  | inspection =>
    have htaken := exec_servicePostInspected_taken h hargs
    rw [postInspected_eq] at htaken
    exact ⟨appendHistory_elements_eq s a.index _, htaken⟩
  | correction =>
    have htaken := exec_servicePostCorrected_taken h hargs
    rw [postCorrected_eq, appendHistory_reproject] at htaken
    exact htaken

end Sys2Proof.Machine

/-! # Proofs: settings and status (chapter 11) -/

namespace Sys2Proof.Machine

/-! ## Item codes and indices (Table 11-2) -/

theorem indexArg_in_range {n v : Nat} {i : Fin n} (h : v = i.val) : indexArg n v = some i := by
  simp only [indexArg, h, i.isLt, dif_pos]

theorem indexArg_out_of_range {n v : Nat} (h : n ≤ v) : indexArg n v = none :=
  dif_neg (Nat.not_lt.2 h)

section Items

variable {code index : Byte} {n : Nat} {make : Fin n → SettingItem}

theorem settingItem_in_range (hcode : settingItem code index = (indexArg n index.toNat).map make) {i : Fin n}
    (hindex : index.toNat = i.val) : settingItem code index = some (make i) := by
  rw [hcode, indexArg_in_range hindex, Option.map_some]

theorem settingItem_out_of_range (hcode : settingItem code index = (indexArg n index.toNat).map make)
    (hindex : n ≤ index.toNat) : settingItem code index = none := by
  rw [hcode, indexArg_out_of_range hindex, Option.map_none]

/-- The items without an index of their own have the one index 0. -/
theorem settingItem_single {item : SettingItem}
    (hcode : settingItem code index = (indexArg 1 index.toNat).map fun _ => item) :
    settingItem code index = if index = 0 then some item else none := by
  split
  · next hzero => exact settingItem_in_range (i := 0) hcode (by rw [hzero]; rfl)
  · next hbeyond =>
    exact settingItem_out_of_range hcode (Nat.pos_of_ne_zero fun hzero => hbeyond (BitVec.eq_of_toNat_eq hzero))

/-- Codes 3 to 9 name the items that stand once for each machine or port. -/
theorem settingItem_beyond_four (hcode : code = 3 ∨ code = 4 ∨ code = 5 ∨ code = 6 ∨ code = 7 ∨ code = 8 ∨ code = 9)
    (hindex : 4 ≤ index.toNat) : settingItem code index = none := by
  rcases hcode with rfl | rfl | rfl | rfl | rfl | rfl | rfl <;> exact settingItem_out_of_range rfl hindex

/-- The codes of Table 11-2 are 1 to 11. -/
theorem settingItem_unknown_code (hcode : code.toNat = 0 ∨ 11 < code.toNat) : settingItem code index = none := by
  unfold settingItem
  split
  case h_12 => rfl
  all_goals omega

end Items

/-! ## SETTINGS_READ (R180) -/

/-- A whole number in a two-byte field is its high byte, then its low byte (R170). -/
theorem halfBytes_eq (v : Nat) : halfBytes v = [BitVec.ofNat 8 (v / 256), BitVec.ofNat 8 v] := by
  have hhigh : (BitVec.ofNat 16 v).extractLsb' 8 8 = BitVec.ofNat 8 (v / 256) := by
    apply BitVec.eq_of_toNat_eq
    simp only [BitVec.extractLsb'_toNat, BitVec.toNat_ofNat, Nat.shiftRight_eq_div_pow]
    omega
  have hlow : (BitVec.ofNat 16 v).extractLsb' 0 8 = BitVec.ofNat 8 v := by
    apply BitVec.eq_of_toNat_eq
    simp only [BitVec.extractLsb'_toNat, BitVec.toNat_ofNat, Nat.shiftRight_zero]
    omega
  rw [halfBytes, bytes16, hhigh, hlow]

theorem settingsReadArgs_of_length {payload : List Byte} (h : payload.length ≠ 2) :
    settingsReadArgs payload = none := by
  unfold settingsReadArgs
  split
  · exact absurd rfl h
  · rfl

theorem settingsReadArgs_pair (code index : Byte) :
    settingsReadArgs [code, index] = (settingItem code index).map fun item => (item, code, index) := by
  cases hitem : settingItem code index <;> simp only [settingsReadArgs, hitem, Option.map_none, Option.map_some]

section Read

variable {s : State} {p : Port} {code index : Byte}

/-- SETTINGS_READ has no check on role or binding (R180). -/
theorem exec_settingsRead_ready (hready : s.phase = .ready) (p : Port) (payload : List Byte) :
    exec (.settingsRead p payload) s = .next (s.answer p 0xF1#8 (settingsAnswer payload s)) :=
  takeRequest_ready hready p .settingsRead (readOnly (settingsAnswer payload))

/-- A payload that names no item is answered BAD_ARG (R162, R180). -/
theorem exec_settingsRead_badArgs {payload : List Byte} (hready : s.phase = .ready)
    (hargs : settingsReadArgs payload = none) :
    exec (.settingsRead p payload) s = .next (s.answer p 0xF1#8 { status := .badArg, body := [] }) := by
  rw [exec_settingsRead_ready hready]
  simp only [settingsAnswer, hargs, refuse]

theorem exec_settingsRead_noItem (hready : s.phase = .ready) (hitem : settingItem code index = none) :
    exec (.settingsRead p [code, index]) s = .next (s.answer p 0xF1#8 { status := .badArg, body := [] }) :=
  exec_settingsRead_badArgs hready (by rw [settingsReadArgs_pair, hitem, Option.map_none])

/-- An item in range is answered with its stored value in two bytes (R180). -/
theorem exec_settingsRead_item {item : SettingItem} {v : Nat} (hready : s.phase = .ready)
    (hitem : settingItem code index = some item) (hvalue : s.settings.read item = BitVec.ofNat 16 v) :
    exec (.settingsRead p [code, index]) s = .next (s.answer p 0xF1#8
      { status := .ok, body := [code, index, BitVec.ofNat 8 (v / 256), BitVec.ofNat 8 v] }) := by
  have hanswer : settingsAnswer [code, index] s = { status := .ok, body := [code, index] ++ halfBytes v } := by
    simp only [settingsAnswer, settingsReadArgs_pair, hitem, Option.map_some, hvalue, halfBytes]
  rw [exec_settingsRead_ready hready, hanswer, halfBytes_eq]
  rfl

end Read

/-! ## STATUS_READ (R184) -/

section Status

variable {s : State}

/-- STATUS_READ has no check on role or binding (R184). -/
theorem exec_statusRead_ready (hready : s.phase = .ready) (p : Port) (payload : List Byte) :
    exec (.statusRead p payload) s = .next (s.answer p 0xF0#8 (statusAnswer payload s)) :=
  takeRequest_ready hready p .statusRead (readOnly (statusAnswer payload))

theorem exec_statusRead_starting (hstarting : s.phase = .starting) (p : Port) (payload : List Byte) :
    exec (.statusRead p payload) s = .next (s.answer p 0xF0#8 { status := .starting, body := [] }) :=
  takeRequest_starting hstarting p .statusRead (readOnly (statusAnswer payload))

end Status

/-- SP0 to SP3 stand at 2 to 5 among the occupants and among the restart origins (R170). -/
theorem byteOf_port (q : Port) : byteOf (2 + q.val) = BitVec.ofNat 8 (q.val + 2) := by
  rw [byteOf, Nat.add_comm]

/-- A slot's requester occupies the engine by a build or by a lookup, and the reply does not tell them apart. -/
theorem State.occupantBytes_eq (s : State) :
    s.occupantBytes = match s.engine.occupant with
      | none => [0#8, 0#8]
      | some .fold => [1#8, 0#8]
      | some (.slot q) => [BitVec.ofNat 8 (q.val + 2), s.slots[q].kindByte] := by
  rw [State.occupantBytes]
  cases s.engine with
  | idle => rfl
  | fold _ => rfl
  | build q _ => exact congrArg ([·, s.slots[q].kindByte]) (byteOf_port q)
  | lookup q => exact congrArg ([·, s.slots[q].kindByte]) (byteOf_port q)

theorem RestartOrigin.code_port (q : Port) : (RestartOrigin.port q).code = BitVec.ofNat 8 (q.val + 2) :=
  byteOf_port q

/-- A set of machines carries bit n for machine n (R170). -/
theorem machineSetByte_eq (v : Vector Bool 4) :
    machineSetByte v = BitVec.ofNat 8 ((if v[0] then 1 else 0) + (if v[1] then 2 else 0) +
      (if v[2] then 4 else 0) + (if v[3] then 8 else 0)) := by
  simp only [machineSetByte, byteOf, Bool.toNat, Bool.cond_eq_ite, mul_ite, Nat.mul_one, Nat.mul_zero]

/-- The STATUS_READ reply field by field in the order of R184, with the summary's fields among them. -/
theorem statusAnswer_eq (s : State) :
    statusAnswer [] s =
      { status := .ok
        body := bytes32 s.openInterval ++ bytes32 s.lastFolded ++ dueBytes s.foldState.closed ++
          [s.activeBank.code, s.foldState.code, boolByte s.pendingTrigger, s.timer.code] ++
          halfBytes s.timer.seconds ++ s.occupantBytes ++ bytes32 s.summary.interval ++
          halfBytes s.summary.credited ++ halfBytes s.summary.rateOnly ++ halfBytes s.summary.skipped ++
          halfBytes s.summary.newHits ++
          [byteOf s.summary.saturatedCells, machineSetByte s.summary.discarded, s.supply.code,
            s.settings.supplyPolicy.code, s.origin.code] } := by
  simp only [statusAnswer, noArgs, Summary.bytes, List.append_assoc, List.cons_append, List.nil_append]

/-! ## The obligations -/

/-- Settles O47: each code by the range of its index, and each enumerated value by its cases. -/
theorem settingsReadReturnsTheStoredValue : Obligations.SettingsReadReturnsTheStoredValue := by
  intro s p code index hready st reply given refused
  have hgiven {item : SettingItem} {v : Nat} (hitem : settingItem code index = some item)
      (hvalue : st.read item = BitVec.ofNat 16 v) : given v := exec_settingsRead_item hready hitem hvalue
  have hrefused (hitem : settingItem code index = none) : refused := exec_settingsRead_noItem hready hitem
  refine ⟨?interval, ?weight, fun hcode hindex => hrefused (settingItem_beyond_four hcode hindex), ?ofFour, ?tier,
    ?supply, fun hcode => hrefused (settingItem_unknown_code hcode),
    fun payload hlength => exec_settingsRead_badArgs hready (settingsReadArgs_of_length hlength)⟩
  case interval =>
    rintro rfl
    have hitem := settingItem_single (code := 1) (index := index) rfl
    exact ⟨fun hzero => hgiven (hitem.trans (if_pos hzero)) (BitVec.ofNat_toNat ..).symm,
      fun hbeyond => hrefused (hitem.trans (if_neg hbeyond))⟩
  case weight =>
    rintro rfl
    exact ⟨fun c hindex => hgiven (settingItem_in_range (make := .classWeight) rfl hindex) (BitVec.ofNat_toNat ..).symm,
      fun hbeyond => hrefused (settingItem_out_of_range rfl hbeyond)⟩
  case ofFour =>
    intro i hindex
    refine ⟨?shift, ?mode, ?roles, ?binding, ?policy, ?enables, ?discard⟩ <;> rintro rfl <;>
      refine hgiven (settingItem_in_range rfl hindex) ?_ <;> simp only [Settings.read]
    case mode => cases st.modes[i] <;> rfl
    case policy => cases st.policies[i] <;> rfl
    case discard => cases st.discardTimes[i] <;> rfl
    case roles | binding | enables => exact (BitVec.ofNat_toNat ..).symm
  case tier =>
    rintro rfl
    refine ⟨fun r hindex => hgiven (settingItem_in_range rfl hindex) ?_,
      fun hbeyond => hrefused (settingItem_out_of_range rfl hbeyond)⟩
    simp only [Settings.read]
    cases st.tiers[r] <;> rfl
  case supply =>
    rintro rfl
    have hitem := settingItem_single (code := 11) (index := index) rfl
    refine ⟨fun hzero => hgiven (hitem.trans (if_pos hzero)) ?_,
      fun hbeyond => hrefused (hitem.trans (if_neg hbeyond))⟩
    simp only [Settings.read]
    cases st.supplyPolicy <;> rfl

/-- Settles O49: `statusAnswer_eq` gives the fields in order; the occupant, the marked machines and the origin of a port
have their own lemmas, and the other codes are those of the model. -/
theorem statusReadReportsThePart : Obligations.StatusReadReportsThePart := by
  intro s p n16 closed kindOf occupant sm
  refine ⟨fun hstarting payload => exec_statusRead_starting hstarting p payload, fun hready => ⟨?_, fun b rest => ?_⟩⟩
  · rw [exec_statusRead_ready hready, statusAnswer_eq, State.occupantBytes_eq, machineSetByte_eq]
    cases s.origin with
    | power => rfl
    | line => rfl
    | port q => rw [RestartOrigin.code_port]; rfl
  · exact exec_statusRead_ready hready p (b :: rest)

end Sys2Proof.Machine

/-! # Proofs: the moves that every step is made of -/

namespace Sys2Proof.Machine

/-! ## Moves -/

/-- The stage of a fold that follows a step of its walk, the marking of plans or the hand-over of hits, in the order of
Table 3-8; the other stages are followed by a move of their own. -/
inductive FoldStage.Precedes : FoldStage → FoldStage → Prop where
  | step (e : ElementIx) : FoldStage.Precedes (.step e) (FoldStage.afterStep e)
  | markStale : FoldStage.Precedes .markStale .handHits
  | handHits : FoldStage.Precedes .handHits .clearBank

/-- READY before anything is raised: the supply-low input is sampled and the timer restarted (R183). -/
def State.sampled (s : State) : State :=
  { s with supply := s.supplyPin, timer := restartedTimer s.settings, phase := .ready }

/-- The atomic changes of which every step is made. Each keeps every invariant of the part by itself; a constructor
carries what the checks before the change guarantee of it. -/
inductive Move (s : State) : State → Prop where
  | queue (l : List Instr) : Move s { s with pending := l }
  | links (l : Vector Link 4) : Move s { s with links := l }
  | plans (l : Vector Plan 4) : Move s { s with plans := l }
  | timer (x : IntervalTimer) : Move s { s with timer := x }
  | supply (pin sampled : SupplyState) : Move s { s with supplyPin := pin, supply := sampled }
  | watch (m : MachineId) : Move s { s with engine := s.engine.watch m }
  | bank (m : MachineId) (t : MachineTally) : Move s (s.writeActive m t)
  | attention (l : Vector PortAttention 4)
      (follows : ∀ p : Port, l[p] = s.attention[p] ∨ l[p].line = lineOf l[p].pending s.settings.enables[p]) :
      Move s { s with attention := l }
  | settings (st : Settings) (enables : st.enables = s.settings.enables)
      (length : st.intervalLength = s.settings.intervalLength ∨
        1 ≤ st.intervalLength.toNat ∧ st.intervalLength.toNat ≤ 240)
      (admin : (∃ p, s.settings.holds p .admin = true) → ∃ p, st.holds p .admin = true) :
      Move s { s with settings := st }
  | enable (p : Port) (set : CauseSet) : Move s (s.setEnable p set)
  | define (e : ElementIx) (r : Element) (vacant : s.elements[e].state = .vacant) (due : r.due = none)
      (state : r.state = .active) (head : r.head = none) (inRange : r.inRange) : Move s (s.write e r)
  | amend (e : ElementIx) (r : Element) (state : r.state = s.elements[e].state)
      (machine : r.machine = s.elements[e].machine) (due : r.state = .active → r.due = s.elements[e].due)
      (head : r.head = s.elements[e].head) (inRange : s.elements[e].inRange → r.inRange) : Move s (s.write e r)
  | place (e : ElementIx) (r : Element) (defined : s.elements[e].state ≠ .vacant) (state : r.state = .active)
      (machine : r.machine = s.elements[e].machine) (head : r.head = s.elements[e].head)
      (inRange : s.elements[e].inRange → r.inRange) : Move s ((s.write e r).place r.machine e r.due)
  | suspend (e : ElementIx) (active : s.elements[e].state = .active) :
      Move s ((s.write e { s.elements[e] with state := .suspended }).remove s.elements[e].machine e)
  | vacate (e : ElementIx) :
      Move s { (s.write e s.elements[e].vacated).remove s.elements[e].machine e with
        pool := { s.pool with
          alloc := Vector.ofFn fun b =>
            if b ∈ chainOf s.pool.alloc s.elements[e].head then .free else s.pool.alloc[b] } }
  | append (e : ElementIx) (h : HistoryRecord) (pool : HistoryPool) (head : Option BlockIx)
      (defined : s.elements[e].state ≠ .vacant)
      (kept : Machine.append s.pool s.elements[e].head h = some (pool, head)) :
      Move s { s.write e { s.elements[e] with head := head } with pool := pool }
  | windows (l : Vector (Vector (Option Window) 8) 4)
      (inRange : ∀ (m : MachineId) (w : WindowSlot) (v : Window), l[m][w] = some v →
        s.windows[m][w] = some v ∨ v.inRange) : Move s { s with windows := l }
  | foldStage (run after : FoldRun) (engine : s.engine = .fold run) (interval : after.interval = run.interval)
      (stage : run.stage.Precedes after.stage) : Move s { s with engine := .fold after }
  | storeFold (run : FoldRun) (engine : s.engine = .fold run) (stage : run.stage = .store) : Move s (storeFold run s)
  | clearBank (run : FoldRun) (engine : s.engine = .fold run) (stage : run.stage = .clearBank) :
      Move s { s.setBank s.activeBank.other Bank.zero with
        foldState := .idle, pendingTrigger := false, engine := .fold { run with stage := .release } }
  | release (run : FoldRun) (engine : s.engine = .fold run) (stage : run.stage = .release) : Move s s.release
  | swap (idle : s.foldState = .idle) : Move s s.swap
  | mark (occupied : s.foldState ≠ .idle) : Move s { s with pendingTrigger := true }
  | ask (p : Port) (copy : RequestCopy) (empty : s.slots[p] = .empty) :
      Move s (State.startWaiting { s with slots := s.slots.set p (.waiting copy) } (.slot p))
  | hold (p : Port) (slot : Slot) (held : ∃ c r n, s.slots[p] = .ready c r n)
      (after : slot = .empty ∨ ∃ c r n, slot = .ready c r n) : Move s { s with slots := s.slots.set p slot }
  | finish (p : Port) (c : RequestCopy) (r : LongResult) (n : Nat) (runs : s.engine.occupant = some (.slot p)) :
      Move s (State.release { s with slots := s.slots.set p (.ready c r n) })
  | resetSlot (p : Port) : Move s (s.resetSlot p)
  | startUp (origin : RestartOrigin) : Move s (s.beginStartUp origin)
  | enterReady (starting : s.phase = .starting) :
      Move s s.repair.rebuild.resetVolatile.sampled

/-- A chain of moves. -/
abbrev Moves : State → State → Prop := Relation.ReflTransGen Move

theorem Move.moves {s t : State} (h : Move s t) : Moves s t := .single h

/-! ## Raises, staleness, appends -/

/-- A raise recomputes the line of each port it reaches (R171, R172). -/
theorem raiseAt_moves (at_ : Port → Bool) (c : Cause) (s : State) : Moves s (raiseAt at_ c s) := by
  have frame : raiseAt at_ c s = { s with attention := (raiseAt at_ c s).attention } := by
    unfold raiseAt
    split <;> rfl
  rw [frame]
  refine (Move.attention _ fun p => ?_).moves
  rw [raiseAt_attention]
  split
  · exact .inr rfl
  · exact .inl rfl

theorem hitAt_moves (at_ : Port → Bool) (c : HitCause) (n : Nat) (l : Option ElementIx) (s : State) :
    Moves s (hitAt at_ c n l s) := by
  have frame : hitAt at_ c n l s = { s with attention := (hitAt at_ c n l s).attention } := by
    unfold hitAt
    split <;> rfl
  rw [frame]
  refine (Move.attention _ fun p => ?_).moves
  rw [hitAt_attention]
  split
  · exact .inr rfl
  · exact .inl rfl

theorem handHits_moves (e : ElementIx) (m : MachineId) (hits : List HitFlag) (s : State) :
    Moves s (handHits e m hits s) := by
  unfold handHits
  induction hits generalizing s with
  | nil => exact .refl
  | cons f rest ih => exact (hitAt_moves ..).trans (ih _)

theorem staleEvent_moves (m : MachineId) (s : State) : Moves s (staleEvent m s) := by
  have watched : Moves s { s with engine := s.engine.watch m } := (Move.watch m).moves
  rcases staleEvent_cases m s with ⟨_, h⟩ | ⟨_, h⟩ <;> rw [h]
  · exact (watched.tail (.plans (s.plans.set m { s.plans[m] with state := .stale }))).trans (raiseAt_moves ..)
  · exact watched

theorem appendHistory_moves {s : State} {e : ElementIx} (defined : s.elements[e].state ≠ .vacant)
    (h : HistoryRecord) : Moves s (s.appendHistory e h).1 := by
  rcases appendHistory_cases s e h with ⟨pool, head, kept, heq⟩ | ⟨_, heq⟩ <;> rw [heq]
  · exact (Move.append e h pool head defined kept).moves
  · exact raiseAt_moves ..

/-- A reprojection keeps the place of its record: the element stays of its machine and in its chain (R53, R91). -/
theorem reproject_moves {s : State} {e : ElementIx} {r : Element}
    (state : r.state = .active ∧ s.elements[e].state ≠ .vacant ∨ r.state ≠ .active ∧ r.state = s.elements[e].state)
    (machine : r.machine = s.elements[e].machine) (head : r.head = s.elements[e].head)
    (inRange : s.elements[e].inRange → r.inRange) : Moves s (s.reproject e r) := by
  have projectedInRange : s.elements[e].inRange → (s.projected r).inRange := fun h =>
    ⟨(inRange h).duty, (inRange h).beltRate, (inRange h).plan, (inRange h).rate⟩
  rw [State.reproject_eq]
  refine .trans ?_ (staleEvent_moves ..)
  rcases state with ⟨active, defined⟩ | ⟨inactive, same⟩
  · rw [if_pos active]
    exact (Move.place e (s.projected r) defined active machine head projectedInRange).moves
  · rw [if_neg inactive]
    exact (Move.amend e (s.projected r) same machine (fun h => (inactive h).elim) head projectedInRange).moves

/-! ## Triggers and slots -/

/-- A trigger swaps in IDLE and is marked otherwise (R29, R30). -/
theorem trigger_moves (s : State) : Moves s s.trigger := by
  rcases trigger_cases s with ⟨idle, _, h⟩ | ⟨occupied, _, _, h⟩ | ⟨_, _, _, h⟩ <;> rw [h]
  · exact (Move.swap idle).moves
  · exact (Move.mark occupied).moves

theorem expireInterval_moves (s : State) : Moves s s.expireInterval := by
  rcases expireInterval_cases s with ⟨idle, h⟩ | ⟨occupied, h⟩ <;> rw [h]
  · exact (Move.swap idle).moves
  · exact (Move.mark occupied).moves.tail (.timer .expired)

theorem takeLong_moves (p : Port) (req : LongRequest) (payload : List Byte) (s : State) :
    Moves s (takeLong p req payload s).1 := by
  rcases takeLong_cases p req payload s with ⟨empty, h⟩ | ⟨c, r, n, held, _, h⟩ | h <;> rw [h]
  · exact (Move.ask p _ empty).moves
  · exact (Move.hold p .empty ⟨c, r, n, held⟩ (.inl rfl)).moves

/-- A completed operation tells its port, and its slot and the engine change together (R149). -/
theorem complete_moves {s : State} {p : Port} (runs : s.engine.occupant = some (.slot p)) (c : RequestCopy)
    (r : LongResult) : Moves s (s.complete p c r) := by
  have raiseFirst (l : Vector Slot 4) :
      raiseAt (fun q => q = p) .result { s with slots := l } =
        { raiseAt (fun q => q = p) .result s with slots := l } := by
    cases h : s.phase <;> simp only [raiseAt, h]
  have slots : (raiseAt (fun q => q = p) .result s).slots = s.slots := by simp only [raiseAt_frame]
  unfold State.complete
  rw [raiseFirst, ← slots]
  exact (raiseAt_moves ..).tail (.finish p c r _ (by simpa only [raiseAt_frame] using runs))

theorem discardResult_moves {s : State} {p : Port} (held : ∃ c r n, s.slots[p] = .ready c r n) :
    Moves s (s.discardResult p) :=
  (Move.hold p .empty held (.inl rfl)).moves.trans (raiseAt_moves ..)

/-! ## Time -/

theorem tickSlot_moves (s : State) (p : Port) : Moves s (s.tickSlot p) := by
  rcases tickSlot_cases s p with ⟨c, r, n, held, _, h⟩ | ⟨c, r, n, held, _, h⟩ | ⟨_, h⟩ <;> rw [h]
  · exact (Move.hold p _ ⟨c, r, n, held⟩ (.inr ⟨c, r, n - 1, rfl⟩)).moves
  · exact discardResult_moves ⟨c, r, n, held⟩

theorem tickInterval_moves (s : State) : Moves s s.tickInterval := by
  unfold State.tickInterval
  split
  · split
    · exact (Move.timer _).moves
    · exact expireInterval_moves s
  · exact .refl

/-- A walk whose every step is made of moves is made of moves. -/
theorem foldl_moves {α : Type} {act : State → α → State} (hact : ∀ s x, Moves s (act s x)) (l : List α)
    (s : State) : Moves s (l.foldl act s) := by
  induction l generalizing s with
  | nil => exact .refl
  | cons x rest ih => exact (hact s x).trans (ih _)

theorem tick_moves (s : State) : Moves s s.tick := by
  unfold State.tick
  split
  · exact .refl
  · exact (tickInterval_moves s).trans (foldl_moves tickSlot_moves _ _)

/-! ## Requests -/

/-- A request is made of its block's moves and of its reply (R162). -/
theorem takeRequest_moves {p : Port} {k : RequestKind} {block : State → State × Answer} {s t : State}
    (hblock : s.phase = .ready → Moves s (block s).1) (h : takeRequest p k block s = .next t) : Moves s t := by
  rcases takeRequest_cases p k block s with ⟨_, heq⟩ | ⟨ready, heq⟩ <;> rw [heq] at h <;> cases h
  · exact (Move.links _).moves
  · exact (hblock ready).tail (.links _)

theorem modifyElement_moves {α : Type} {p : Port} {role : Role} {args : Option (ElementIx × Generation × α)}
    {act : ElementIx → Element → α → State → State × Answer} {s : State}
    (hact : ∀ e x, args = some (e, s.elements[e].generation, x) → s.elements[e].state ≠ .vacant →
      Moves s (act e s.elements[e] x s).1) : Moves s (modifyElement p role args act s).1 := by
  rcases modifyElement_cases p role args act s with ⟨a, h⟩ | ⟨e, x, hargs, _, defined, _, h⟩ <;> rw [h]
  exact hact e x hargs defined

theorem reportChecks_moves {α : Type} {p : Port} {args : Option (MachineId × α)}
    {act : MachineId → α → State → State × Answer} {s : State} (hact : ∀ m x, Moves s (act m x s).1) :
    Moves s (reportChecks p args act s).1 := by
  rcases reportChecks_cases p args act s with ⟨a, h⟩ | ⟨m, x, _, _, _, _, h⟩ <;> rw [h]
  exact hact m x

/-! ## The Element Table -/

/-- The values that ELEMENT_DEFINE clamps and checks lie in their ranges (R8, Table 1-5, Table 1-6). -/
theorem clampDuty_inRange (d : Byte) : 1 ≤ (clampDuty d).toNat ∧ (clampDuty d).toNat ≤ 64 := by
  unfold clampDuty
  split
  · decide
  · split
    · decide
    · have hpos : 0 < d.toNat := BitVec.toNat_pos_of_ne_zero ‹_›
      omega

theorem clampPlan_le {planAt limit : Word} (hlimit : limit ≠ 0) : clampPlan planAt limit ≤ limit := by
  unfold clampPlan
  split
  · exact BitVec.le_refl _
  · next h => exact BitVec.not_lt.1 fun hlt => h ⟨hlimit, hlt⟩

theorem rateWindowOk_iff (low high : Half) : rateWindowOk low high = true ↔ high = 0 ∨ low ≤ high := by
  simp [rateWindowOk]

theorem defineArgs_rateWindow {payload : List Byte} {a : DefineArgs} (h : defineArgs payload = some a) :
    a.rateHigh = 0 ∨ a.rateLow ≤ a.rateHigh := by
  unfold defineArgs at h
  split at h
  · split at h
    · next hok => cases h; exact (rateWindowOk_iff _ _).1 hok
    · cases h
  · cases h

theorem definedRecord_inRange {a : DefineArgs} (h : a.rateHigh = 0 ∨ a.rateLow ≤ a.rateHigh) (old : Element)
    (opened : Interval) : (definedRecord a old opened).inRange where
  duty := clampDuty_inRange a.duty
  beltRate kind := by
    have hkind : a.kind = .roller := kind
    simp only [definedRecord, clampBeltRate, hkind]
  plan _ hlimit := clampPlan_le hlimit
  rate hhigh := h.resolve_left hhigh

theorem defineChecks_moves (p : Port) (payload : List Byte) (s : State) : Moves s (defineChecks p payload s).1 := by
  unfold defineChecks
  split
  · exact .refl
  · split
    · exact .refl
    · next a hargs =>
      split
      · exact .refl
      · split
        · exact .refl
        · next hvacant =>
          have written := Move.define a.index (definedRecord a s.elements[a.index] s.openInterval)
            (not_not.1 hvacant) rfl rfl rfl (definedRecord_inRange (defineArgs_rateWindow hargs) _ _)
          refine written.moves.trans (appendHistory_moves ?_ _)
          rw [State.write_elements, get_set_same]
          exact ElementState.noConfusion

theorem vacate_moves (e : ElementIx) (s : State) : Moves s (vacate e s.elements[e] () s).1 := by
  rw [vacate_eq]
  exact ((Move.vacate e).moves.tail (.plans _)).trans (staleEvent_moves ..)

theorem suspend_moves (e : ElementIx) (s : State) : Moves s (suspend e s.elements[e] () s).1 := by
  unfold suspend
  split
  · next active => exact (Move.suspend e active).moves.trans (staleEvent_moves ..)
  · exact .refl

theorem resume_moves (e : ElementIx) (s : State) : Moves s (resume e s.elements[e] () s).1 := by
  unfold resume
  split
  · next suspended =>
    exact reproject_moves (.inl ⟨rfl, by rw [suspended]; decide⟩) rfl rfl fun h => ⟨h.duty, h.beltRate, h.plan, h.rate⟩
  · exact .refl

/-- A record rewritten in its tenancy stays ACTIVE or SUSPENDED as it was. -/
theorem kept_state {r old : Element} (same : r.state = old.state) (defined : old.state ≠ .vacant) :
    r.state = .active ∧ old.state ≠ .vacant ∨ r.state ≠ .active ∧ r.state = old.state := by
  by_cases active : r.state = .active
  · exact .inl ⟨active, defined⟩
  · exact .inr ⟨active, same⟩

theorem setLimits_moves {s : State} {e : ElementIx} {v : LimitValues} (defined : s.elements[e].state ≠ .vacant)
    (window : v.rateHigh = 0 ∨ v.rateLow ≤ v.rateHigh) : Moves s (setLimits e s.elements[e] v s).1 :=
  reproject_moves (kept_state rfl defined) rfl rfl fun h =>
    ⟨h.duty, h.beltRate, fun _ => clampPlan_le, fun hhigh => window.resolve_left hhigh⟩

theorem ackHits_moves (e : ElementIx) (named : FlagSet) (s : State) : Moves s (ackHits e s.elements[e] named s).1 :=
  .single (.amend e _ rfl rfl (fun _ => rfl) rfl fun h => ⟨h.duty, h.beltRate, h.plan, h.rate⟩)

/-! ## Service posts -/

section Posts

variable {s : State} {e : ElementIx} (defined : s.elements[e].state ≠ .vacant)
include defined

/-- An append keeps every field of its record but the head, so that the record stays as the post's check found it. -/
theorem appendHistory_reproject_moves (h : HistoryRecord) {r : Element}
    (state : r.state = s.elements[e].state) (machine : r.machine = s.elements[e].machine)
    (head : r.head = (s.appendHistory e h).1.elements[e].head)
    (inRange : s.elements[e].inRange → r.inRange) :
    Moves s ((s.appendHistory e h).1.reproject e r) := by
  have same := appendHistory_elements_same s e h
  have state' : (s.appendHistory e h).1.elements[e].state = s.elements[e].state := by rw [same]
  have machine' : (s.appendHistory e h).1.elements[e].machine = s.elements[e].machine := by rw [same]
  refine (appendHistory_moves defined h).trans (reproject_moves (kept_state (state.trans state'.symm) ?_)
    (machine.trans machine'.symm) head fun range => inRange ?_)
  · rw [state']
    exact defined
  · rw [same] at range
    exact ⟨range.duty, range.beltRate, range.plan, range.rate⟩

theorem postReplaced_moves (a : PostArgs) : Moves s (postReplaced e s.elements[e] a s).1 := by
  rw [postReplaced_eq]
  exact appendHistory_reproject_moves defined _ rfl rfl rfl fun h => ⟨h.duty, h.beltRate, h.plan, h.rate⟩

theorem postCorrected_moves (a : PostArgs) : Moves s (postCorrected e s.elements[e] a s).1 := by
  rw [postCorrected_eq]
  exact appendHistory_reproject_moves defined _ rfl rfl rfl fun h => ⟨h.duty, h.beltRate, h.plan, h.rate⟩

theorem postInspected_moves (a : PostArgs) : Moves s (postInspected e s.elements[e] a s).1 :=
  appendHistory_moves defined _

end Posts

/-! ## Reports, modes and settings -/

theorem modeSet_moves (p : Port) (payload : List Byte) (s : State) : Moves s (modeSet p payload s).1 := by
  unfold modeSet
  split
  · exact .refl
  · split
    · exact .refl
    · split
      · exact .refl
      · exact .single (.settings _ rfl (.inl rfl) id)

theorem reckonNow_moves (p : Port) (payload : List Byte) (s : State) : Moves s (reckonNow p payload s).1 := by
  unfold reckonNow
  split
  · exact .refl
  · split
    · exact .refl
    · exact trigger_moves s

theorem clampLength_inRange (v : Half) : 1 ≤ (clampLength v).toNat ∧ (clampLength v).toNat ≤ 240 := by
  have hbound : max 1 (min v.toNat 240) < 2 ^ 8 := by omega
  simp only [clampLength, byteOf, BitVec.toNat_ofNat, Nat.mod_eq_of_lt hbound]
  omega

theorem someAdmin_iff (st : Settings) : someAdmin st.roles = true ↔ ∃ p, st.holds p .admin = true := by
  simp [someAdmin, Settings.holds]

/-- A written setting keeps the ranges of the store, and only an enable set acts on a line (R176, R179). -/
theorem applySetting_moves {s : State} {st : Settings} {v : Half} {item : SettingItem}
    (h : s.settings.write v item = some st) : Moves s (s.applySetting st item) := by
  cases item with
  | intervalLength =>
    cases h
    exact .single (.settings _ rfl (.inr (clampLength_inRange v)) id)
  | classWeight c | smoothingShift m =>
    cases h
    exact .single (.settings _ rfl (.inl rfl) id)
  | machineMode m => cases h
  | roleSet p =>
    rw [Settings.write] at h
    split at h
    · next hok =>
      cases h
      exact .single (.settings _ rfl (.inl rfl) fun _ => (someAdmin_iff _).1 hok.2)
    · cases h
  | binding p =>
    rw [Settings.write] at h
    split at h
    · cases h
      exact .single (.settings _ rfl (.inl rfl) id)
    · cases h
  | enableSet p =>
    rw [Settings.write] at h
    split at h
    · cases h
      have written : s.applySetting { s.settings with enables := s.settings.enables.set p (v.extractLsb' 0 11) }
          (.enableSet p) = s.setEnable p (v.extractLsb' 0 11) := by
        simp [State.applySetting, State.setEnable]
      rw [written]
      exact (Move.enable p _).moves
    · cases h
  | notifyPolicy p | discardTime p | tierBit r | supplyPolicy =>
    obtain ⟨x, _, rfl⟩ := Option.map_eq_some_iff.1 h
    exact .single (.settings _ rfl (.inl rfl) id)

theorem settingsWrite_moves (p : Port) (payload : List Byte) (s : State) :
    Moves s (settingsWrite p payload s).1 := by
  unfold settingsWrite
  split
  · exact .refl
  · split
    · exact .refl
    · split
      · exact .refl
      · exact applySetting_moves ‹_›

/-! ## Windows and plan builds -/

/-- A window that passes the argument check lies in its range once its capacity is clamped (R99, R101). -/
theorem windowSetArgs_inRange {payload : List Byte} {m : MachineId} {w : WindowSlot} {v : Window}
    (h : windowSetArgs payload = some (m, w, v)) :
    Window.inRange { v with capacity := clampCapacity v.capacity } := by
  unfold windowSetArgs at h
  split at h
  · split at h
    · split at h
      · next hok =>
        cases h
        refine ⟨hok.1, ?_⟩
        have hpos := BitVec.toNat_pos_of_ne_zero hok.2
        dsimp only [clampCapacity]
        split
        · decide
        · omega
      · cases h
    · cases h
  · cases h

/-- One window slot written, with a window in range or none. -/
theorem setWindow_moves {m : MachineId} {w : WindowSlot} {o : Option Window} (h : ∀ v, o = some v → v.inRange)
    (s : State) : Moves s (s.setWindow m w o) := by
  refine (Move.windows _ fun m' w' v hv => ?_).moves
  rw [get_set] at hv
  split at hv
  · next hm =>
    subst hm
    rw [get_set] at hv
    split at hv
    · exact .inr (h v hv)
    · exact .inl hv
  · exact .inl hv

theorem windowSetChecks_moves (p : Port) (payload : List Byte) (s : State) :
    Moves s (windowSetChecks p payload s).1 := by
  unfold windowSetChecks
  split
  · exact .refl
  · split
    · exact .refl
    · next hargs =>
      split
      · exact .refl
      · split
        · exact .refl
        · refine (setWindow_moves (fun v hv => ?_) s).trans (staleEvent_moves ..)
          cases hv
          exact windowSetArgs_inRange hargs

theorem windowDropChecks_moves (p : Port) (payload : List Byte) (s : State) :
    Moves s (windowDropChecks p payload s).1 := by
  unfold windowDropChecks
  split
  · exact .refl
  · split
    · exact .refl
    · split
      · exact .refl
      · unfold windowDrop
        dsimp only
        split
        · exact (setWindow_moves (by simp) s).trans (staleEvent_moves ..)
        · exact .refl

theorem planBuildChecks_moves (p : Port) (payload : List Byte) (s : State) :
    Moves s (planBuildChecks p payload s).1 := by
  unfold planBuildChecks
  split
  · exact .refl
  · split
    · exact .refl
    · split
      · exact .refl
      · exact takeLong_moves ..

theorem installPlan_moves (run : BuildRun) (s : State) : Moves s (installPlan run s) := by
  have installed : Moves s { s with plans := s.plans.set run.machine run.plan } := (Move.plans _).moves
  unfold installPlan
  dsimp only
  split
  · exact installed.trans (raiseAt_moves ..)
  · exact installed

theorem installPlan_engine (run : BuildRun) (s : State) : (installPlan run s).engine = s.engine := by
  unfold installPlan
  dsimp only
  split
  · simp only [raiseAt_frame]
  · rfl

theorem historyReadChecks_moves (p : Port) (payload : List Byte) (s : State) :
    Moves s (historyReadChecks p payload s).1 := by
  unfold historyReadChecks
  split
  · exact .refl
  · exact takeLong_moves ..

theorem elementFindChecks_moves (p : Port) (payload : List Byte) (s : State) :
    Moves s (elementFindChecks p payload s).1 := by
  unfold elementFindChecks
  split
  · exact .refl
  · exact takeLong_moves ..

/-! ## Attention and port requests -/

/-- One port's record replaced by one whose line follows its sets (R171). -/
theorem attend_moves {s : State} {p : Port} {a : PortAttention}
    (follows : a.line = lineOf a.pending s.settings.enables[p]) :
    Moves s { s with attention := s.attention.set p a } := by
  refine (Move.attention _ fun q => ?_).moves
  rw [get_set]
  split
  · next hq => subst hq; exact .inr follows
  · exact .inl rfl

theorem attnClear_moves (p : Port) (payload : List Byte) (s : State) : Moves s (attnClear p payload s).1 := by
  unfold attnClear
  split
  · exact .refl
  · exact attend_moves rfl

theorem attnEnable_moves (p : Port) (payload : List Byte) (s : State) : Moves s (attnEnable p payload s).1 := by
  unfold attnEnable
  split
  · exact .refl
  · exact (Move.enable p _).moves

theorem portReset_moves (p : Port) (payload : List Byte) (s : State) : Moves s (portReset p payload s).1 := by
  unfold portReset
  split
  · exact .refl
  · exact (Move.resetSlot p).moves.trans (attend_moves (by simp [PortAttention.clear, lineOf]))

/-! ## The fold -/

/-- An element step reckons and places its record, logs its limit, hands its hits over and moves to the next stage
(Table 3-3). -/
theorem stepActive_moves {s : State} {run : FoldRun} {e : ElementIx} (engine : s.engine = .fold run)
    (stage : run.stage = .step e) (active : s.elements[e].state = .active) :
    Moves s (stepActive run e s.elements[e] s) := by
  unfold stepActive
  extract_lets bank zone reckoned hits placed handed
  have toPlaced : Moves s placed :=
    (Move.place e (checkedRecord reckoned hits) (by rw [active]; decide) active rfl rfl fun h =>
      ⟨h.duty, h.beltRate, h.plan, h.rate⟩).moves
  have stillActive : placed.elements[e].state = .active := by
    rw [State.place_elements, State.write_elements, get_set_same]
    exact active
  have toHanded : Moves placed handed := by
    refine .trans ?_ (handHits_moves ..)
    unfold logLimit
    split
    · exact appendHistory_moves (by rw [stillActive]; decide) _
    · exact .refl
  have sameEngine : handed.engine = .fold run := by
    rw [← engine]
    dsimp only [handed]
    rw [handHits_frame]
    unfold logLimit
    split
    · simp only [State.appendHistory_frame]
      rfl
    · rfl
  refine (toPlaced.trans toHanded).tail (Move.foldStage run _ sameEngine rfl ?_)
  rw [stage]
  exact .step e

theorem stepSkipped_moves {s : State} {run : FoldRun} {e : ElementIx} (engine : s.engine = .fold run)
    (stage : run.stage = .step e) (counted : Bool) : Moves s (stepSkipped run e counted s) := by
  refine .single (.foldStage run _ engine rfl ?_)
  rw [stage]
  exact .step e

theorem stepElement_moves {s : State} {run : FoldRun} {e : ElementIx} (engine : s.engine = .fold run)
    (stage : run.stage = .step e) : Moves s (stepElement run e s) := by
  unfold stepElement
  split
  · exact stepSkipped_moves engine stage false
  · exact stepSkipped_moves engine stage true
  · split
    · exact stepSkipped_moves engine stage true
    · exact stepActive_moves engine stage ‹_›

/-- A staleness event leaves a fold in progress as it is: only a build has a watch mark (R110). -/
theorem staleEvent_fold {s : State} {run : FoldRun} (engine : s.engine = .fold run) (m : MachineId) :
    (staleEvent m s).engine = .fold run := by
  rw [staleEvent_engine, engine]
  rfl

/-- The machines marked moved or expired have their staleness events in index order (R61). -/
def staleMarked (run : FoldRun) (s : State) : State :=
  (List.finRange 4).foldl (fun s m => if run.moved[m] || run.expired[m] then staleEvent m s else s) s

theorem staleMarked_moves (run : FoldRun) (s : State) : Moves s (staleMarked run s) :=
  foldl_moves (fun s m => by
    split
    · exact staleEvent_moves m s
    · exact .refl) _ s

theorem staleMarked_engine {s : State} {run : FoldRun} (engine : s.engine = .fold run) :
    (staleMarked run s).engine = .fold run := by
  unfold staleMarked
  induction List.finRange 4 generalizing s with
  | nil => exact engine
  | cons m rest ih =>
    refine ih ?_
    dsimp only
    split
    · exact staleEvent_fold engine m
    · exact engine

theorem markPlansStale_moves {s : State} {run : FoldRun} (engine : s.engine = .fold run)
    (stage : run.stage = .markStale) : Moves s (markPlansStale run s) := by
  refine (staleMarked_moves run s).tail (Move.foldStage run _ (staleMarked_engine engine) rfl ?_)
  rw [stage]
  exact .markStale

/-- A record that the third stage leaves alone, or whose line it recomputes (R171). -/
theorem foldDone_follows (a : PortAttention) (tally : DeferredTally) (policy : NotifyPolicy) (binding : BitVec 4)
    (enable : CauseSet) :
    a.foldDone tally policy binding enable = a ∨
      (a.foldDone tally policy binding enable).line =
        lineOf (a.foldDone tally policy binding enable).pending enable := by
  cases policy with
  | immediate => exact .inr rfl
  | deferred => exact .inr rfl
  | summary =>
    unfold PortAttention.foldDone
    dsimp only
    split
    · exact .inr rfl
    · exact .inl rfl
  | none => exact .inl rfl

theorem handDeferred_moves {s : State} {run : FoldRun} (engine : s.engine = .fold run)
    (stage : run.stage = .handHits) : Moves s (handDeferred run s) := by
  have handed := Move.attention (s := s)
    (Vector.ofFn fun p : Port =>
      s.attention[p].foldDone run.tally s.settings.policies[p] s.settings.bindings[p] s.settings.enables[p])
    fun p => by
      rw [get_ofFn]
      exact foldDone_follows ..
  refine handed.moves.tail (Move.foldStage run { run with stage := .clearBank, tally := DeferredTally.empty }
    engine rfl ?_)
  rw [stage]
  exact .handHits

theorem clearClosed_moves {s : State} {run : FoldRun} (engine : s.engine = .fold run)
    (stage : run.stage = .clearBank) : Moves s (clearClosed run s) := by
  have cleared := (Move.clearBank run engine stage).moves
  unfold clearClosed
  dsimp only
  split
  · exact cleared.tail (.swap rfl)
  · exact cleared

/-- A stage of completion in its turn is made of its act's moves (R58). -/
theorem completionStage_moves {stage : FoldStage} {act : FoldRun → State → State} {s t : State}
    (hact : ∀ run, s.engine = .fold run → run.stage = stage → Moves s (act run s))
    (h : completionStage stage act s = .next t) : Moves s t := by
  rcases completionStage_cases stage act s with ⟨run, engine, hstage, heq⟩ | heq <;> rw [heq] at h <;> cases h
  exact hact run engine hstage

/-! ## Supply and start-up -/

theorem supplyAsserted_moves (s : State) : Moves s s.supplyAsserted := by
  have raised := ((Move.supply (s := s) s.supplyPin .asserted).moves.trans (raiseAt_moves (fun _ => true) .supply _))
  unfold State.supplyAsserted
  dsimp only
  split
  · exact raised.trans (trigger_moves _)
  · exact raised

/-- The entry into READY is its move, then the raises of STARTED and SUPPLY (R183). -/
theorem becomeReady_moves (s : State) : Moves s.sampled s.becomeReady := by
  have started : Moves s.sampled (raiseAt (fun _ => true) .started s.sampled) := raiseAt_moves ..
  unfold State.becomeReady
  extract_lets ready raised
  split
  · exact started.trans (raiseAt_moves ..)
  · exact started

/-! ## Frames and requests -/

/-- A complete frame of a known kind runs the row it spells (R162). -/
theorem takeFrame_known {kind : Byte} {k : RequestKind} (h : requestKindOf kind = some k) (p : Port)
    (payload : List Byte) (s : State) : takeFrame p kind payload s = exec (requestOfFrame p payload k) s := by
  unfold takeFrame
  rw [h]
  cases k with
  | servicePost => cases hrow : postRow payload <;> simp only [requestOfFrame, hrow] <;> rfl
  | _ => rfl

theorem takeFrame_unknown {kind : Byte} (h : requestKindOf kind = none) (p : Port) (payload : List Byte)
    (s : State) : takeFrame p kind payload s = exec (.unknown p kind) s := by
  unfold takeFrame
  rw [h]
  rfl

/-- What the owning block of a request does with it; a RESTART that its checks refuse changes nothing (R162, R181). -/
def requestBlock (p : Port) (payload : List Byte) : RequestKind → State → State × Answer
  | .elementDefine => defineChecks p payload
  | .elementVacate => modifyElement p .service (plainArgs payload) vacate
  | .elementSuspend => modifyElement p .service (plainArgs payload) suspend
  | .elementResume => modifyElement p .service (plainArgs payload) resume
  | .limitsSet => modifyElement p .plan (limitsArgs payload) setLimits
  | .hitsAck => modifyElement p .ack (ackArgs payload) ackHits
  | .elementRead => readOnly (elementAnswer payload)
  | .passReport => reportChecks p (passArgs payload) passReport
  | .runReport => reportChecks p (runArgs payload) runReport
  | .reckonNow => reckonNow p payload
  | .modeSet => modeSet p payload
  | .queueRead => readOnly (queueAnswer payload)
  | .windowSet => windowSetChecks p payload
  | .windowDrop => windowDropChecks p payload
  | .planBuild => planBuildChecks p payload
  | .planRead => readOnly (planAnswer payload)
  | .servicePost =>
    match postRow payload with
    | .replacement => modifyElement p .service (postRequest .replacement payload) postReplaced
    | .inspection => modifyElement p .service (postRequest .inspection payload) postInspected
    | .correction => modifyElement p .service (postRequest .correction payload) postCorrected
  | .historyRead => historyReadChecks p payload
  | .elementFind => elementFindChecks p payload
  | .portReset => portReset p payload
  | .attnRead => readOnly (attnAnswer p payload)
  | .attnClear => attnClear p payload
  | .attnEnable => attnEnable p payload
  | .statusRead => readOnly (statusAnswer payload)
  | .settingsRead => readOnly (settingsAnswer payload)
  | .settingsWrite => settingsWrite p payload
  | .restart => readOnly fun s => if s.settings.holds p .admin = false then refuse .denied else refuse .badArg

/-- Every request but RESTART is taken by its block (R162). -/
theorem exec_request {k : RequestKind} (h : k ≠ .restart) (p : Port) (payload : List Byte) (s : State) :
    exec (requestOfFrame p payload k) s = takeRequest p k (requestBlock p payload k) s := by
  cases k with
  | restart => exact (h rfl).elim
  | servicePost => cases hrow : postRow payload <;> simp only [requestOfFrame, requestBlock, hrow] <;> rfl
  | _ => rfl

/-- A RESTART begins start-up, without a reply, when it passes its checks in READY, and is refused otherwise (R181). -/
theorem exec_restart_cases (p : Port) (payload : List Byte) (s : State) :
    (s.phase = .ready ∧ s.settings.holds p .admin = true ∧ payload = [] ∧
      exec (.restart p payload) s = .next (s.beginStartUp (.port p))) ∨
    exec (.restart p payload) s = takeRequest p .restart (requestBlock p payload .restart) s := by
  change _ ∨ execRestart p payload s = _
  change _ ∧ _ ∧ _ ∧ execRestart p payload s = _ ∨ _
  cases hphase : s.phase with
  | starting => exact .inr (by simp only [execRestart, takeRequest, hphase])
  | ready =>
    cases hadmin : s.settings.holds p .admin with
    | false => exact .inr (by simp [execRestart, takeRequest, requestBlock, readOnly, hphase, hadmin])
    | true =>
      cases payload with
      | nil => exact .inl ⟨rfl, rfl, rfl, by simp [execRestart, noArgs, hphase, hadmin]⟩
      | cons b rest =>
        exact .inr (by simp [execRestart, noArgs, takeRequest, requestBlock, readOnly, hphase, hadmin])

theorem requestBlock_moves (p : Port) (payload : List Byte) (k : RequestKind) (s : State) :
    Moves s (requestBlock p payload k s).1 := by
  cases k with
  | elementDefine => exact defineChecks_moves ..
  | elementVacate => exact modifyElement_moves fun e _ _ _ => vacate_moves e s
  | elementSuspend => exact modifyElement_moves fun e _ _ _ => suspend_moves e s
  | elementResume => exact modifyElement_moves fun e _ _ _ => resume_moves e s
  | limitsSet =>
    exact modifyElement_moves fun _ _ hargs defined => setLimits_moves defined (limitsArgs_rateWindow hargs)
  | hitsAck => exact modifyElement_moves fun e named _ _ => ackHits_moves e named s
  | elementRead | queueRead | planRead | attnRead | statusRead | settingsRead | restart => exact .refl
  | passReport | runReport => exact reportChecks_moves fun m _ => .single (.bank m _)
  | reckonNow => exact reckonNow_moves ..
  | modeSet => exact modeSet_moves ..
  | windowSet => exact windowSetChecks_moves ..
  | windowDrop => exact windowDropChecks_moves ..
  | planBuild => exact planBuildChecks_moves ..
  | servicePost =>
    unfold requestBlock
    split
    · exact modifyElement_moves fun _ a _ defined => postReplaced_moves defined a
    · exact modifyElement_moves fun _ a _ defined => postInspected_moves defined a
    · exact modifyElement_moves fun _ a _ defined => postCorrected_moves defined a
  | historyRead => exact historyReadChecks_moves ..
  | elementFind => exact elementFindChecks_moves ..
  | portReset => exact portReset_moves ..
  | attnClear => exact attnClear_moves ..
  | attnEnable => exact attnEnable_moves ..
  | settingsWrite => exact settingsWrite_moves ..

theorem request_moves {p : Port} {payload : List Byte} {k : RequestKind} {s t : State}
    (h : exec (requestOfFrame p payload k) s = .next t) : Moves s t := by
  have taken (heq : exec (requestOfFrame p payload k) s = takeRequest p k (requestBlock p payload k) s) : Moves s t :=
    takeRequest_moves (fun _ => requestBlock_moves p payload k s) (heq.symm.trans h)
  by_cases hrestart : k = .restart
  · subst hrestart
    rcases exec_restart_cases p payload s with ⟨_, _, _, heq⟩ | heq
    · cases heq.symm.trans h
      exact .single (.startUp _)
    · exact taken heq
  · exact taken (exec_request hrestart p payload s)

/-- A row of a SERVICE_POST is a request whatever its payload spells (log 2). -/
theorem post_moves {form : PostForm} {p : Port} {payload : List Byte}
    {act : ElementIx → Element → PostArgs → State → State × Answer}
    (hact : ∀ {s : State} {e : ElementIx}, s.elements[e].state ≠ .vacant → ∀ a, Moves s (act e s.elements[e] a s).1)
    {s t : State}
    (h : takeRequest p .servicePost (modifyElement p .service (postRequest form payload) act) s = .next t) :
    Moves s t :=
  takeRequest_moves (fun _ => modifyElement_moves fun _ a _ defined => hact defined a) h

/-! ## Events of the part's own -/

theorem elementStep_moves {s t : State} (h : execElementStep s = .next t) : Moves s t := by
  unfold execElementStep at h
  split at h
  · split at h
    · cases h; exact stepElement_moves ‹_› ‹_›
    · cases h
  · cases h

theorem planBuildCompletion_moves {s t : State} (h : execPlanBuildCompletion s = .next t) : Moves s t := by
  unfold execPlanBuildCompletion at h
  split at h
  · next engine =>
    split at h
    · cases h
      refine (installPlan_moves ..).trans (complete_moves ?_ ..)
      rw [installPlan_engine, engine]
      rfl
    · cases h
  · cases h

theorem historyReadCompletion_moves {s t : State} (h : execHistoryReadCompletion s = .next t) : Moves s t := by
  unfold execHistoryReadCompletion at h
  split at h
  · next engine =>
    split at h
    · split at h
      · cases h; exact complete_moves (by rw [engine]; rfl) ..
      · cases h
    · cases h
  · cases h

theorem elementFindCompletion_moves {s t : State} (h : execElementFindCompletion s = .next t) : Moves s t := by
  unfold execElementFindCompletion at h
  split at h
  · next engine =>
    split at h
    · split at h
      · cases h; exact complete_moves (by rw [engine]; rfl) ..
      · cases h
    · cases h
  · cases h

theorem discardTimerExpiry_moves {p : Port} {s t : State} (h : execDiscardTimerExpiry p s = .next t) :
    Moves s t := by
  unfold execDiscardTimerExpiry at h
  split at h
  · cases h; exact discardResult_moves ⟨_, _, _, ‹_›⟩
  · cases h

theorem replyReady_moves {p : Port} {s t : State} (h : execReplyReady p s = .next t) : Moves s t := by
  unfold execReplyReady at h
  split at h
  · cases h; exact .single (.links _)
  · cases h

theorem intervalTimerExpiry_moves {s t : State} (h : execIntervalTimerExpiry s = .next t) : Moves s t := by
  unfold execIntervalTimerExpiry at h
  split at h
  · cases h; exact expireInterval_moves s
  · cases h

theorem supplyAssertion_moves {s t : State} (h : execSupplyAssertion s = .next t) : Moves s t := by
  have driven : Moves s { s with supplyPin := .asserted } := .single (.supply .asserted s.supply)
  unfold execSupplyAssertion at h
  dsimp only at h
  split at h
  · cases h; exact driven.trans (supplyAsserted_moves _)
  · cases h; exact driven

theorem supplyDeassertion_moves {s t : State} (h : execSupplyDeassertion s = .next t) : Moves s t := by
  unfold execSupplyDeassertion at h
  split at h
  · cases h; exact .single (.supply _ _)
  · cases h; exact .single (.supply _ s.supply)

theorem execEnterReady_moves {s t : State} (h : execEnterReady s = .next t) : Moves s t := by
  unfold execEnterReady at h
  split at h
  · cases h; exact .head (.enterReady ‹_›) (becomeReady_moves _)
  · cases h

theorem linkByte_moves {p : Port} {b : Byte} {s t : State} (h : execLinkByte p b s = .next t) : Moves s t := by
  have moved : Moves s (s.setLink p (s.links[p].exchange b)) := .single (.links _)
  unfold execLinkByte at h
  dsimp only at h
  split at h
  · cases h; exact moved
  · next kind payload _ =>
    refine moved.trans ?_
    cases hkind : requestKindOf kind with
    | none => rw [takeFrame_unknown hkind] at h; cases h; exact .single (.links _)
    | some k => rw [takeFrame_known hkind] at h; exact request_moves h
  · cases h; exact moved.tail (.links _)

/-! ## Every command -/

/-- Every command is made of moves. -/
theorem exec_moves {c : Instr} {s t : State} (h : exec c s = .next t) : Moves s t := by
  cases c with
  | elementDefine p b => exact request_moves (k := .elementDefine) h
  | elementVacate p b => exact request_moves (k := .elementVacate) h
  | elementSuspend p b => exact request_moves (k := .elementSuspend) h
  | elementResume p b => exact request_moves (k := .elementResume) h
  | limitsSet p b => exact request_moves (k := .limitsSet) h
  | hitsAck p b => exact request_moves (k := .hitsAck) h
  | elementRead p b => exact request_moves (k := .elementRead) h
  | passReport p b => exact request_moves (k := .passReport) h
  | runReport p b => exact request_moves (k := .runReport) h
  | reckonNow p b => exact request_moves (k := .reckonNow) h
  | modeSet p b => exact request_moves (k := .modeSet) h
  | queueRead p b => exact request_moves (k := .queueRead) h
  | windowSet p b => exact request_moves (k := .windowSet) h
  | windowDrop p b => exact request_moves (k := .windowDrop) h
  | planBuild p b => exact request_moves (k := .planBuild) h
  | planRead p b => exact request_moves (k := .planRead) h
  | servicePostReplaced p b => exact post_moves (form := .replacement) postReplaced_moves h
  | servicePostInspected p b => exact post_moves (form := .inspection) postInspected_moves h
  | servicePostCorrected p b => exact post_moves (form := .correction) postCorrected_moves h
  | historyRead p b => exact request_moves (k := .historyRead) h
  | elementFind p b => exact request_moves (k := .elementFind) h
  | portReset p b => exact request_moves (k := .portReset) h
  | attnRead p b => exact request_moves (k := .attnRead) h
  | attnClear p b => exact request_moves (k := .attnClear) h
  | attnEnable p b => exact request_moves (k := .attnEnable) h
  | statusRead p b => exact request_moves (k := .statusRead) h
  | settingsRead p b => exact request_moves (k := .settingsRead) h
  | settingsWrite p b => exact request_moves (k := .settingsWrite) h
  | restart p b => exact request_moves (k := .restart) h
  | frameError p reason => cases h; exact .single (.links _)
  | unknown p kind => cases h; exact .single (.links _)
  | selHigh p => cases h; exact .single (.links _)
  | replyReady p => exact replyReady_moves h
  | intervalTimerExpiry => exact intervalTimerExpiry_moves h
  | supplyAssertion => exact supplyAssertion_moves h
  | supplyDeassertion => exact supplyDeassertion_moves h
  | powerUp => cases h; exact .single (.startUp _)
  | resetLine => cases h; exact .single (.startUp _)
  | enterReady => exact execEnterReady_moves h
  | elementStep => exact elementStep_moves h
  | foldCompletion =>
    exact completionStage_moves (fun run engine stage => .single (.storeFold run engine stage)) h
  | markPlansStale => exact completionStage_moves (fun _ engine stage => markPlansStale_moves engine stage) h
  | handDeferredHits => exact completionStage_moves (fun _ engine stage => handDeferred_moves engine stage) h
  | clearClosedBank => exact completionStage_moves (fun _ engine stage => clearClosed_moves engine stage) h
  | releaseEngine => exact completionStage_moves (fun run engine stage => .single (.release run engine stage)) h
  | planBuildCompletion => exact planBuildCompletion_moves h
  | historyReadCompletion => exact historyReadCompletion_moves h
  | elementFindCompletion => exact elementFindCompletion_moves h
  | discardTimerExpiry p => exact discardTimerExpiry_moves h
  | linkByte p b => exact linkByte_moves h

theorem step_moves {s t : State} (h : step s = .next t) : Moves s t := by
  unfold step at h
  split at h
  · cases h; exact tick_moves s
  · exact .head (.queue _) (exec_moves h)

/-- What every move keeps, every step keeps. -/
theorem step_keeps {P : State → Prop} (keeps : ∀ {s t : State}, Move s t → P s → P t) {s t : State} (hs : P s)
    (h : step s = .next t) : P t := by
  have moves := step_moves h
  clear h
  induction moves with
  | refl => exact hs
  | tail _ move ih => exact keeps move ih

end Sys2Proof.Machine

/-! # Proofs: attention lines and store ranges under every step -/

namespace Sys2Proof.Machine

/-! ## Cause sets (R171) -/

theorem Cause.exists_code (i : Fin 11) : ∃ c : Cause, c.code = i.val := by
  have listed : ∀ i : Fin 11, ∃ c ∈ causes, c.code = i.val := by decide
  obtain ⟨c, _, hc⟩ := listed i
  exact ⟨c, hc⟩

theorem Cause.code_lt (c : Cause) : c.code < 11 := by cases c <;> decide

/-- A cause set is not empty exactly when it holds some cause. -/
theorem causeSet_ne_zero_iff (x : CauseSet) : x ≠ 0 ↔ ∃ c : Cause, hasCause x c = true := by
  constructor
  · intro hx
    by_contra hnone
    refine hx (BitVec.eq_of_getLsbD_eq fun i hi => ?_)
    obtain ⟨c, hc⟩ := Cause.exists_code ⟨i, hi⟩
    have hclear : ¬ hasCause x c = true := fun h => hnone ⟨c, h⟩
    rw [hasCause, hc] at hclear
    simpa using hclear
  · rintro ⟨c, hc⟩ rfl
    simp [hasCause] at hc

/-- The line is asserted exactly when the sets share a cause (R171). -/
theorem lineOf_iff (pending enable : CauseSet) :
    lineOf pending enable = true ↔ ∃ c : Cause, hasCause pending c = true ∧ hasCause enable c = true := by
  rw [lineOf, bne_iff_ne, causeSet_ne_zero_iff]
  simp only [hasCause, BitVec.getLsbD_and, Bool.and_eq_true]

/-! ## Attention lines under every move -/

theorem linesFollowSets_of_same {s t : State} (hs : LinesFollowSets s) (attention : t.attention = s.attention)
    (settings : t.settings = s.settings) : LinesFollowSets t := by
  unfold LinesFollowSets
  rw [attention, settings]
  exact hs

/-- A part with nothing pending has every line released (R177). -/
theorem linesFollowSets_of_clear {s : State} (h : s.attention = Vector.replicate 4 PortAttention.clear) :
    LinesFollowSets s := by
  intro p
  rw [h, get_replicate]
  simp [PortAttention.clear, hasCause]

theorem move_keeps_lines {s t : State} (move : Move s t) (hs : LinesFollowSets s) : LinesFollowSets t := by
  cases move with
  | queue | links | plans | timer | supply | watch | define | amend | place | suspend | vacate | append | windows
  | foldStage | storeFold | mark | hold => exact hs
  | bank => exact linesFollowSets_of_same hs (State.setBank_attention ..) (State.setBank_settings ..)
  | clearBank => exact linesFollowSets_of_same hs (State.setBank_attention ..) (State.setBank_settings ..)
  | attention l follows =>
    intro p
    rcases follows p with same | line
    · rw [same]
      exact hs p
    · rw [line]
      exact lineOf_iff ..
  | settings st enables =>
    intro p
    change _ ↔ ∃ c, _ ∧ hasCause st.enables[p] c = true
    rw [enables]
    exact hs p
  | enable q set =>
    intro p
    rw [State.setEnable_attention, State.setEnable_settings, get_set, get_set]
    split
    · next hq => subst hq; exact lineOf_iff ..
    · exact hs p
  | release | swap | ask | finish | resetSlot => exact linesFollowSets_of_same hs (by simp) (by simp)
  | startUp | enterReady => exact linesFollowSets_of_clear rfl

/-- Settles O55: each move leaves a line or recomputes it from the sets. -/
theorem everyStepKeepsLinesWithSets : Obligations.EveryStepKeepsLinesWithSets :=
  fun _ _ => step_keeps move_keeps_lines

/-! ## Ranges of the store under every move -/

theorem storeInRange_of_same {s t : State} (hs : StoreInRange s) (elements : t.elements = s.elements)
    (windows : t.windows = s.windows) (settings : t.settings = s.settings) : StoreInRange t where
  elements := by rw [elements]; exact hs.elements
  windows := by rw [windows]; exact hs.windows
  intervalLength := by rw [settings]; exact hs.intervalLength
  admin := by rw [settings]; exact hs.admin

/-- A range is a matter of the fields it bounds: duty, belt rate, limits and rate window (R8). -/
theorem Element.inRange.with_head {r : Element} (h : r.inRange) (head : Option BlockIx) :
    Element.inRange { r with head := head } := ⟨h.duty, h.beltRate, h.plan, h.rate⟩

/-- One record written, in its range, keeps the store in range. -/
theorem StoreInRange.set {s t : State} (hs : StoreInRange s) {e : ElementIx} {r : Element} (inRange : r.inRange)
    (elements : t.elements = s.elements.set e r) (windows : t.windows = s.windows)
    (settings : t.settings = s.settings) : StoreInRange t where
  elements f := by
    rw [elements, get_set]
    split
    · exact inRange
    · exact hs.elements f
  windows := by rw [windows]; exact hs.windows
  intervalLength := by rw [settings]; exact hs.intervalLength
  admin := by rw [settings]; exact hs.admin

/-- The heads that chain repair drops are no matter of range. -/
theorem dropHeads_get_eq (rp : Repair) (elements : Vector Element 512) (e : ElementIx) :
    ∃ head, (rp.dropHeads elements)[e] = { elements[e] with head := head } := by
  unfold Repair.dropHeads
  induction rp.dropped generalizing elements with
  | nil => exact ⟨_, rfl⟩
  | cons f rest ih =>
    obtain ⟨head, h⟩ := ih (elements.set f { elements[f] with head := none })
    refine ⟨head, ?_⟩
    rw [List.foldl_cons, h, get_set]
    split
    · next hf => subst hf; rfl
    · rfl

/-- Chain repair changes the records' heads and the allocation table alone (R182). -/
theorem State.repair_frame (s : State) :
    (∀ e : ElementIx, ∃ head, s.repair.elements[e] = { s.elements[e] with head := head }) ∧
      s.repair.pool.blocks = s.pool.blocks ∧
      s.repair = { s with elements := s.repair.elements, pool := s.repair.pool } := by
  unfold State.repair
  generalize repairWalk s.elements s.pool.alloc = walk
  exact ⟨dropHeads_get_eq walk s.elements, rfl, rfl⟩

/-- Behind chain repair, the entry into READY leaves the store as it is (R183). -/
theorem State.entered_store (s : State) :
    s.rebuild.resetVolatile.sampled.elements = s.elements ∧ s.rebuild.resetVolatile.sampled.pool = s.pool ∧
      s.rebuild.resetVolatile.sampled.windows = s.windows ∧
      s.rebuild.resetVolatile.sampled.settings = s.settings ∧
      s.rebuild.resetVolatile.sampled.lastFolded = s.lastFolded := ⟨rfl, rfl, rfl, rfl, rfl⟩

theorem expireWindow_some {i : Interval} {w : Option Window} {v : Window} (h : expireWindow i w = some v) :
    w = some v := by
  unfold expireWindow at h
  split at h
  · split at h
    · cases h
    · exact h
  · cases h

theorem move_keeps_storeInRange {s t : State} (move : Move s t) (hs : StoreInRange s) : StoreInRange t := by
  cases move with
  | queue | links | plans | timer | supply | watch | foldStage | mark | hold | attention =>
    exact storeInRange_of_same hs rfl rfl rfl
  | bank | clearBank =>
    exact storeInRange_of_same hs (State.setBank_elements ..) (State.setBank_windows ..) (State.setBank_settings ..)
  | release | swap | ask | finish | resetSlot => exact storeInRange_of_same hs (by simp) (by simp) (by simp)
  | startUp => exact storeInRange_of_same hs rfl rfl rfl
  | settings st _ length admin =>
    refine ⟨hs.elements, hs.windows, ?_, admin hs.admin⟩
    rcases length with same | inRange
    · exact same ▸ hs.intervalLength
    · exact inRange
  | enable => exact ⟨hs.elements, hs.windows, hs.intervalLength, hs.admin⟩
  | define e r _ _ _ _ inRange => exact hs.set inRange rfl rfl rfl
  | amend e r _ _ _ _ inRange | place e r _ _ _ _ inRange => exact hs.set (inRange (hs.elements e)) rfl rfl rfl
  | suspend e =>
    have inRange : Element.inRange { s.elements[e] with state := .suspended } :=
      ⟨(hs.elements e).duty, (hs.elements e).beltRate, (hs.elements e).plan, (hs.elements e).rate⟩
    exact hs.set inRange rfl rfl rfl
  | vacate e =>
    have inRange : s.elements[e].vacated.inRange :=
      ⟨(hs.elements e).duty, (hs.elements e).beltRate, (hs.elements e).plan, (hs.elements e).rate⟩
    exact hs.set inRange rfl rfl rfl
  | append e _ _ head => exact hs.set ((hs.elements e).with_head head) rfl rfl rfl
  | windows l inRange =>
    exact ⟨hs.elements, fun m w v hv => (inRange m w v hv).elim (hs.windows m w v) id, hs.intervalLength, hs.admin⟩
  | storeFold run =>
    refine ⟨hs.elements, fun m w v hv => hs.windows m w v ?_, hs.intervalLength, hs.admin⟩
    rw [storeFold, get_map, get_map] at hv
    exact expireWindow_some hv
  | enterReady =>
    obtain ⟨elements, _, windows, settings, _⟩ := s.repair.entered_store
    obtain ⟨heads, _, frame⟩ := s.repair_frame
    have repairedWindows : s.repair.windows = s.windows := by rw [frame]
    have repairedSettings : s.repair.settings = s.settings := by rw [frame]
    refine storeInRange_of_same (s := s.repair) ⟨fun e => ?_, ?_, ?_, ?_⟩ elements windows settings
    · obtain ⟨head, h⟩ := heads e
      rw [h]
      exact (hs.elements e).with_head head
    · rw [repairedWindows]; exact hs.windows
    · rw [repairedSettings]; exact hs.intervalLength
    · rw [repairedSettings]; exact hs.admin

/-- Settles O56: each move that writes a record, a window or a setting writes it in its range. -/
theorem everyStepKeepsTheStoreInRange : Obligations.EveryStepKeepsTheStoreInRange :=
  fun _ _ => step_keeps move_keeps_storeInRange

end Sys2Proof.Machine

/-! # Proofs: due queues (chapter 5) -/

namespace Sys2Proof.Machine

/-! ## The order of entries (R85) -/

/-- An entry stands before another in a due queue (R85). -/
def QueueEntry.Precedes (a b : QueueEntry) : Prop := a.due < b.due ∨ (a.due = b.due ∧ a.index < b.index)

theorem QueueEntry.before_iff (a b : QueueEntry) : a.before b = true ↔ a.Precedes b := by
  simp [QueueEntry.before, QueueEntry.Precedes]

theorem QueueEntry.Precedes.trans {a b c : QueueEntry} (hab : a.Precedes b) (hbc : b.Precedes c) : a.Precedes c := by
  unfold QueueEntry.Precedes at *
  rcases hab with hlt | ⟨heq, hix⟩ <;> rcases hbc with hlt' | ⟨heq', hix'⟩
  · exact .inl (BitVec.lt_trans hlt hlt')
  · exact .inl (heq' ▸ hlt)
  · exact .inl (heq ▸ hlt')
  · exact .inr ⟨heq.trans heq', hix.trans hix'⟩

/-- Of two entries that differ, one stands before the other. -/
theorem QueueEntry.precedes_of_ne {a b : QueueEntry} (hne : a ≠ b) (h : ¬ a.Precedes b) : b.Precedes a := by
  unfold QueueEntry.Precedes at *
  rw [not_or, not_and] at h
  by_cases hlt : b.due < a.due
  · exact .inl hlt
  · have heq : b.due = a.due := BitVec.le_antisymm (BitVec.not_lt.1 h.1) (BitVec.not_lt.1 hlt)
    refine .inr ⟨heq, lt_of_le_of_ne (not_lt.1 (h.2 heq.symm)) fun hix => hne ?_⟩
    cases a; cases b
    simp_all

theorem QueueEntry.not_precedes_self (a : QueueEntry) : ¬ a.Precedes a := by
  simp [QueueEntry.Precedes]

/-! ## Lists in due order -/

theorem insertEntry_perm (e : QueueEntry) (l : List QueueEntry) : (insertEntry e l).Perm (e :: l) := by
  induction l with
  | nil => exact .refl _
  | cons x rest ih =>
    unfold insertEntry
    split
    · exact .refl _
    · exact (ih.cons x).trans (.swap e x rest)

/-- An entry put at its place keeps the order (R85, R87). -/
theorem insertEntry_inDueOrder {e : QueueEntry} {l : List QueueEntry} (order : InDueOrder l) (new : e ∉ l) :
    InDueOrder (insertEntry e l) := by
  induction l with
  | nil => exact List.pairwise_singleton ..
  | cons x rest ih =>
    obtain ⟨first, later⟩ := List.pairwise_cons.1 order
    have hne : e ≠ x := List.ne_of_not_mem_cons new
    have hrest : e ∉ rest := List.not_mem_of_not_mem_cons new
    unfold insertEntry
    split
    · next hbefore =>
      have precedes := (QueueEntry.before_iff e x).1 hbefore
      refine List.pairwise_cons.2 ⟨fun y hy => ?_, order⟩
      rcases List.mem_cons.1 hy with rfl | hy
      · exact precedes
      · exact precedes.trans (first y hy)
    · next hbefore =>
      rw [QueueEntry.before_iff] at hbefore
      refine List.pairwise_cons.2 ⟨fun y hy => ?_, ih later hrest⟩
      rcases List.mem_cons.1 ((insertEntry_perm e rest).mem_iff.1 hy) with rfl | hy
      · exact QueueEntry.precedes_of_ne hne hbefore
      · exact first y hy

theorem mem_withoutIndex {ix : ElementIx} {l : List QueueEntry} {x : QueueEntry} :
    x ∈ withoutIndex ix l ↔ x ∈ l ∧ x.index ≠ ix := by
  simp [withoutIndex]

theorem InDueOrder.nodup {l : List QueueEntry} (order : InDueOrder l) : l.Nodup := by
  refine List.Pairwise.imp (R := QueueEntry.Precedes) (fun {a b} h => ?_) order
  rintro rfl
  exact a.not_precedes_self h

/-- In a queue with one entry per index, an entry is the one its index names. -/
theorem eq_of_index {l : List QueueEntry} (unique : (l.map fun x => x.index).Nodup) {x y : QueueEntry} (hx : x ∈ l)
    (hy : y ∈ l) (h : x.index = y.index) : x = y :=
  List.inj_on_of_nodup_map unique hx hy h

/-! ## Notices (R87, R88) -/

/-- A REMOVE notice is a PLACE notice without a due (Table 5-3). -/
theorem DueQueue.remove_eq_place (q : DueQueue) (e : ElementIx) : q.remove e = q.place e none := by
  unfold DueQueue.remove DueQueue.place
  cases findEntry e q.entries <;> rfl

/-- The entries that a notice leaves when it changes the queue. -/
def noticed (ix : ElementIx) (due : Option Interval) (l : List QueueEntry) : List QueueEntry :=
  match due with
  | some d => insertEntry { index := ix, due := d } (withoutIndex ix l)
  | none => withoutIndex ix l

/-- A notice changes nothing when its element stands in the queue at the due named, or stays out of it. -/
theorem DueQueue.place_eq (q : DueQueue) (ix : ElementIx) (due : Option Interval) :
    q.place ix due =
      if (findEntry ix q.entries).map QueueEntry.due = due then q
      else { entries := noticed ix due q.entries, revision := q.revision + 1 } := by
  unfold DueQueue.place
  cases hfind : findEntry ix q.entries with
  | none =>
    have absent : withoutIndex ix q.entries = q.entries :=
      List.filter_eq_self.2 fun x hx => by simpa using List.find?_eq_none.1 hfind x hx
    cases due <;> simp [noticed, absent]
  | some e => cases due <;> simp [noticed]

section Notice

variable {l : List QueueEntry} (ix : ElementIx) (due : Option Interval)

theorem mem_noticed (x : QueueEntry) :
    x ∈ noticed ix due l ↔ (x.index ≠ ix ∧ x ∈ l) ∨ (x.index = ix ∧ due = some x.due) := by
  cases due with
  | none => simp [noticed, mem_withoutIndex, and_comm]
  | some d =>
    have isNew : x = { index := ix, due := d } ↔ x.index = ix ∧ some d = some x.due := by
      cases x
      simp [eq_comm]
    rw [noticed, (insertEntry_perm _ _).mem_iff, List.mem_cons, mem_withoutIndex, isNew, or_comm]
    simp only [and_comm]

theorem noticed_inDueOrder (order : InDueOrder l) : InDueOrder (noticed ix due l) := by
  have kept : InDueOrder (withoutIndex ix l) := List.Pairwise.filter _ order
  cases due with
  | none => exact kept
  | some d => exact insertEntry_inDueOrder kept fun h => (mem_withoutIndex.1 h).2 rfl

theorem noticed_unique (unique : (l.map fun x => x.index).Nodup) :
    ((noticed ix due l).map fun x => x.index).Nodup := by
  have kept : ((withoutIndex ix l).map fun x => x.index).Nodup :=
    unique.sublist (List.filter_sublist.map _)
  cases due with
  | none => exact kept
  | some d =>
    rw [noticed, ((insertEntry_perm _ _).map _).nodup_iff, List.map_cons, List.nodup_cons]
    refine ⟨fun h => ?_, kept⟩
    obtain ⟨x, hx, hix⟩ := List.mem_map.1 h
    exact (mem_withoutIndex.1 hx).2 hix

/-- The notice finds its element at the due named exactly when the queue already is as the notice asks. -/
theorem find_eq_due_iff (unique : (l.map fun x => x.index).Nodup) :
    (findEntry ix l).map QueueEntry.due = due ↔
      ∀ x : QueueEntry, x ∈ l ↔ (x.index ≠ ix ∧ x ∈ l) ∨ (x.index = ix ∧ due = some x.due) := by
  cases hfind : findEntry ix l with
  | none =>
    have absent (x : QueueEntry) (hx : x ∈ l) : x.index ≠ ix := by
      simpa using List.find?_eq_none.1 hfind x hx
    constructor
    · rintro rfl x
      simpa using absent x
    · intro h
      cases due with
      | none => rfl
      | some d => exact (absent _ ((h { index := ix, due := d }).2 (.inr ⟨rfl, rfl⟩)) rfl).elim
  | some y =>
    have hy : y ∈ l := List.mem_of_find?_eq_some hfind
    have hix : y.index = ix := by simpa using List.find?_some hfind
    constructor
    · rintro rfl x
      by_cases hx : x.index = ix
      · have same : x ∈ l ↔ some y.due = some x.due := by
          refine ⟨fun hmem => by rw [eq_of_index unique hmem hy (hx.trans hix.symm)], fun hdue => ?_⟩
          have heq : x = y := by
            cases x; cases y
            simp_all
          exact heq ▸ hy
        simpa [hx] using same
      · simp [hx]
    · intro h
      exact ((h y).1 hy).elim (fun hother => (hother.1 hix).elim) fun hsame => hsame.2.symm

end Notice

/-- What a notice leaves of a queue: the order, one entry per index, the element at exactly the due named, and the
revision counting the change (R85, R87, R88). -/
structure DueQueue.Notified (q after : DueQueue) (e : ElementIx) (due : Option Interval) : Prop where
  order : InDueOrder after.entries
  unique : (after.entries.map fun x => x.index).Nodup
  mem : ∀ x : QueueEntry, x ∈ after.entries ↔ (x.index ≠ e ∧ x ∈ q.entries) ∨ (x.index = e ∧ due = some x.due)
  same : after.entries = q.entries → after.revision = q.revision
  changed : after.entries ≠ q.entries → after.revision = q.revision + 1

theorem DueQueue.place_notified {q : DueQueue} (order : InDueOrder q.entries)
    (unique : (q.entries.map fun x => x.index).Nodup) (e : ElementIx) (due : Option Interval) :
    q.Notified (q.place e due) e due := by
  rw [DueQueue.place_eq]
  split
  · next stands => exact ⟨order, unique, (find_eq_due_iff e due unique).1 stands, fun _ => rfl, fun h => (h rfl).elim⟩
  · next moves =>
    refine ⟨noticed_inDueOrder e due order, noticed_unique e due unique, mem_noticed e due,
      fun h => (moves ((find_eq_due_iff e due unique).2 fun x => ?_)).elim, fun _ => rfl⟩
    rw [← mem_noticed]
    exact (Iff.of_eq (congrArg (x ∈ ·) h)).symm

/-- Settles O32: a REMOVE notice is a PLACE notice without a due, and `place_notified` says what that leaves. -/
theorem noticesKeepTheQueueInOrder : Obligations.NoticesKeepTheQueueInOrder := by
  intro q e order unique meets
  have placed (due : Option Interval) : meets (q.place e due) due :=
    have h := DueQueue.place_notified order unique e due
    ⟨h.order, h.unique, h.mem, h.same, h.changed⟩
  refine ⟨placed, ?_⟩
  rw [DueQueue.remove_eq_place]
  exact placed none

/-! ## Queues that match the records (R86) -/

/-- The due at which a record stands in its machine's queue: that of an ACTIVE element (R86). -/
def Element.queued (r : Element) : Option Interval := if r.state = .active then r.due else none

theorem Element.queued_active {r : Element} (h : r.state = .active) : r.queued = r.due := if_pos h

theorem Element.queued_inactive {r : Element} (h : r.state ≠ .active) : r.queued = none := if_neg h

theorem Element.queued_eq_some_iff {r : Element} {d : Interval} :
    r.queued = some d ↔ r.state = .active ∧ r.due = some d := by
  by_cases h : r.state = .active <;> simp [Element.queued, h]

/-- One machine's queue is in order and holds exactly its queued records (R85, R86). -/
structure DueQueue.Matches (q : DueQueue) (elements : Vector Element 512) (m : MachineId) : Prop where
  order : InDueOrder q.entries
  mem : ∀ (e : ElementIx) (d : Interval), { index := e, due := d } ∈ q.entries ↔
    elements[e].machine = m ∧ elements[e].queued = some d

theorem queuesMatchRecords_iff (s : State) :
    QueuesMatchRecords s ↔ (s.phase = .ready → ∀ m : MachineId, s.queues[m].Matches s.elements m) := by
  have each (m : MachineId) : s.queues[m].Matches s.elements m ↔ InDueOrder s.queues[m].entries ∧
      ∀ (e : ElementIx) (d : Interval), { index := e, due := d } ∈ s.queues[m].entries ↔
        s.elements[e].state = .active ∧ s.elements[e].machine = m ∧ s.elements[e].due = some d := by
    constructor
    · rintro ⟨order, mem⟩
      exact ⟨order, fun e d => by rw [mem, Element.queued_eq_some_iff, and_left_comm]⟩
    · rintro ⟨order, mem⟩
      exact ⟨order, fun e d => by rw [mem, Element.queued_eq_some_iff, and_left_comm]⟩
  simp only [QueuesMatchRecords, each]

theorem DueQueue.Matches.unique {q : DueQueue} {elements : Vector Element 512} {m : MachineId}
    (h : q.Matches elements m) : (q.entries.map fun x => x.index).Nodup := by
  refine h.order.nodup.map_on fun x hx y hy hix => ?_
  have dueOf (z : QueueEntry) (hz : z ∈ q.entries) : elements[z.index].queued = some z.due := ((h.mem _ _).1 hz).2
  have hdue : some x.due = some y.due := by
    rw [← dueOf x hx, ← dueOf y hy]
    exact congrArg (fun i : ElementIx => elements[i].queued) hix
  cases x; cases y
  simp_all

section Matches

variable {elements : Vector Element 512} {queues : Vector DueQueue 4}
  (h : ∀ m : MachineId, queues[m].Matches elements m) {e : ElementIx} {r : Element}
include h

/-- A record written with its queue entry placed keeps every queue matching the records (R87). -/
theorem matches_place (machine : r.machine = elements[e].machine ∨ elements[e].queued = none) (m : MachineId) :
    (queues.set r.machine (queues[r.machine].place e r.queued))[m].Matches (elements.set e r) m := by
  by_cases hm : r.machine = m
  · subst hm
    have notified := DueQueue.place_notified (h r.machine).order (h r.machine).unique e r.queued
    rw [get_set_same]
    refine ⟨notified.order, fun f d => ?_⟩
    rw [notified.mem, (h r.machine).mem, get_set]
    by_cases hf : e = f
    · subst hf
      simp
    · simp [hf, Ne.symm hf]
  · rw [get_set_other _ _ hm]
    refine ⟨(h m).order, fun f d => ?_⟩
    rw [(h m).mem, get_set]
    split
    · next hf =>
      subst hf
      rcases machine with same | out
      · rw [← same]
        simp [hm]
      · rw [out]
        simp [hm]
    · rfl

/-- A record written with the same queue entry, or none, leaves every queue matching the records. -/
theorem matches_amend (machine : r.machine = elements[e].machine ∨ elements[e].queued = none)
    (queued : r.queued = elements[e].queued) (m : MachineId) : queues[m].Matches (elements.set e r) m := by
  refine ⟨(h m).order, fun f d => ?_⟩
  rw [(h m).mem, get_set]
  split
  · next hf =>
    subst hf
    rw [queued]
    rcases machine with same | out
    · rw [same]
    · rw [out]
      simp
  · rfl

end Matches

/-! ## The rebuild at start-up (R97) -/

/-- One record of the rebuild's walk (R97). -/
def rebuildStep (elements : Vector Element 512) (m : MachineId) (l : List QueueEntry) (e : ElementIx) :
    List QueueEntry :=
  match elements[e].queued with
  | some d => if elements[e].machine = m then insertEntry { index := e, due := d } l else l
  | none => l

theorem rebuildQueue_eq (elements : Vector Element 512) (m : MachineId) :
    rebuildQueue elements m =
      { entries := (List.finRange 512).foldl (rebuildStep elements m) [], revision := 0 } := by
  have step : rebuildStep elements m = fun q e =>
      match elements[e].state, elements[e].due with
      | .active, some d => if elements[e].machine = m then insertEntry { index := e, due := d } q else q
      | _, _ => q := by
    funext q e
    unfold rebuildStep Element.queued
    cases elements[e].state <;> cases elements[e].due <;> rfl
  rw [step]
  rfl

/-- The walk puts every queued record of the machine in its place, each once (R97). -/
theorem rebuild_walk (elements : Vector Element 512) (m : MachineId) {l : List ElementIx} (once : l.Nodup)
    {q : List QueueEntry} (order : InDueOrder q) (fresh : ∀ x ∈ q, x.index ∉ l) :
    InDueOrder (l.foldl (rebuildStep elements m) q) ∧
      ∀ x : QueueEntry, x ∈ l.foldl (rebuildStep elements m) q ↔
        x ∈ q ∨ (x.index ∈ l ∧ elements[x.index].machine = m ∧ elements[x.index].queued = some x.due) := by
  induction l generalizing q with
  | nil => exact ⟨order, by simp⟩
  | cons e rest ih =>
    obtain ⟨hnew, hrest⟩ := List.nodup_cons.1 once
    have freshRest : ∀ x ∈ q, x.index ∉ rest := fun x hx hmem => fresh x hx (List.mem_cons_of_mem e hmem)
    rw [List.foldl_cons]
    by_cases enters : ∃ d, elements[e].queued = some d ∧ elements[e].machine = m
    · obtain ⟨d, queued, machine⟩ := enters
      have stepped : rebuildStep elements m q e = insertEntry { index := e, due := d } q := by
        simp only [rebuildStep, queued, machine, if_true]
      have mem (x : QueueEntry) := (insertEntry_perm { index := e, due := d } q).mem_iff (a := x)
      have absent : { index := e, due := d } ∉ q := fun hx => fresh _ hx List.mem_cons_self
      rw [stepped]
      obtain ⟨order', mem'⟩ := ih hrest (insertEntry_inDueOrder order absent) fun x hx => by
        rcases List.mem_cons.1 ((mem x).1 hx) with rfl | hx
        · exact hnew
        · exact freshRest x hx
      refine ⟨order', fun x => ?_⟩
      have isNew : x = { index := e, due := d } ↔
          x.index = e ∧ elements[x.index].machine = m ∧ elements[x.index].queued = some x.due := by
        constructor
        · rintro rfl
          exact ⟨rfl, machine, queued⟩
        · rintro ⟨rfl, _, hdue⟩
          cases x
          simp_all
      rw [mem', mem, List.mem_cons, isNew, List.mem_cons]
      tauto
    · have stepped : rebuildStep elements m q e = q := by
        unfold rebuildStep
        split
        · next d hd => exact if_neg fun hm => enters ⟨d, hd, hm⟩
        · rfl
      rw [stepped]
      obtain ⟨order', mem'⟩ := ih hrest order freshRest
      refine ⟨order', fun x => ?_⟩
      have notNew : ¬ (x.index = e ∧ elements[x.index].machine = m ∧ elements[x.index].queued = some x.due) := by
        rintro ⟨rfl, hm, hd⟩
        exact enters ⟨_, hd, hm⟩
      rw [mem', List.mem_cons]
      tauto

theorem rebuildQueue_matches (elements : Vector Element 512) (m : MachineId) :
    (rebuildQueue elements m).Matches elements m := by
  obtain ⟨order, mem⟩ := rebuild_walk elements m (List.nodup_finRange 512) (q := []) .nil (by simp)
  rw [rebuildQueue_eq]
  generalize (List.finRange 512).foldl (rebuildStep elements m) [] = entries at order mem
  exact ⟨order, fun e d => by rw [mem]; simp⟩

/-! ## Queues under every move -/

theorem queuesMatchRecords_of_same {s t : State} (hs : QueuesMatchRecords s) (elements : t.elements = s.elements)
    (queues : t.queues = s.queues) (phase : t.phase = s.phase) : QueuesMatchRecords t := by
  unfold QueuesMatchRecords
  rw [elements, queues, phase]
  exact hs

theorem queuesMatchRecords_entered (s : State) : QueuesMatchRecords s.rebuild.resetVolatile.sampled := by
  refine (queuesMatchRecords_iff _).2 fun _ m => ?_
  have rebuilt : s.rebuild.resetVolatile.sampled.queues = Vector.ofFn (rebuildQueue s.elements) := rfl
  have elements : s.rebuild.resetVolatile.sampled.elements = s.elements := rfl
  rw [rebuilt, elements, get_ofFn]
  exact rebuildQueue_matches s.elements m

theorem move_keeps_queues {s t : State} (move : Move s t) (hs : QueuesMatchRecords s) : QueuesMatchRecords t := by
  have atMatch := (queuesMatchRecords_iff s).1 hs
  cases move with
  | queue | links | plans | timer | supply | watch | attention | settings | enable | windows | foldStage | storeFold
  | mark | hold => exact hs
  | bank | clearBank =>
    exact queuesMatchRecords_of_same hs (State.setBank_elements ..) (State.setBank_queues ..) (State.setBank_phase ..)
  | release | swap | ask | finish | resetSlot => exact queuesMatchRecords_of_same hs (by simp) (by simp) (by simp)
  | startUp => exact fun starting => (Phase.noConfusion starting : False).elim
  | enterReady => exact queuesMatchRecords_entered s.repair
  | define e r vacant due =>
    have out : s.elements[e].queued = none := Element.queued_inactive (by rw [vacant]; decide)
    have still : r.queued = none := by rw [Element.queued, due, ite_self]
    exact (queuesMatchRecords_iff _).2 fun ready => matches_amend (atMatch ready) (.inr out) (still.trans out.symm)
  | amend e r state machine due =>
    have queued : r.queued = s.elements[e].queued := by
      by_cases active : r.state = .active
      · rw [Element.queued_active active, Element.queued_active (state ▸ active), due active]
      · rw [Element.queued_inactive active, Element.queued_inactive (state ▸ active)]
    exact (queuesMatchRecords_iff _).2 fun ready => matches_amend (atMatch ready) (.inl machine) queued
  | place e r _ active machine =>
    refine (queuesMatchRecords_iff _).2 fun ready => ?_
    have placed := matches_place (atMatch ready) (r := r) (e := e) (.inl machine)
    rwa [Element.queued_active active] at placed
  | suspend e =>
    refine (queuesMatchRecords_iff _).2 fun ready => ?_
    have removed := matches_place (atMatch ready) (e := e) (r := { s.elements[e] with state := .suspended }) (.inl rfl)
    rw [Element.queued_inactive (ElementState.noConfusion ·), ← DueQueue.remove_eq_place] at removed
    exact removed
  | vacate e =>
    refine (queuesMatchRecords_iff _).2 fun ready => ?_
    have removed := matches_place (atMatch ready) (e := e) (r := s.elements[e].vacated) (.inl rfl)
    rw [Element.queued_inactive (by simp [Element.vacated]), ← DueQueue.remove_eq_place] at removed
    exact removed
  | append e h pool head =>
    exact (queuesMatchRecords_iff _).2 fun ready =>
      matches_amend (atMatch ready) (r := { s.elements[e] with head := head }) (.inl rfl) rfl

/-- Settles O57: each move that writes a record carries out the notice for its queue entry, and the rebuild at start-up
places every queued record. -/
theorem everyStepKeepsQueuesWithRecords : Obligations.EveryStepKeepsQueuesWithRecords :=
  fun _ _ => step_keeps move_keeps_queues

end Sys2Proof.Machine

/-! # Proofs: the engine and its arbiter (chapter 8) -/

namespace Sys2Proof.Machine

/-! ## The waiting set -/

theorem Requester.ix_inj {r q : Requester} : r.ix = q.ix ↔ r = q := by
  cases r <;> cases q <;> simp [Requester.ix, Fin.succ_ne_zero, (Fin.succ_ne_zero _).symm]

theorem waiting_set (w : Vector Bool 5) (r q : Requester) (b : Bool) :
    (w.set r.ix b)[q.ix] = if r = q then b else w[q.ix] := by
  simp only [get_set, Requester.ix_inj]

theorem Requester.fold_ne_slot (p : Port) : Requester.fold ≠ .slot p := nofun

theorem waiting_set_same (w : Vector Bool 5) (r : Requester) (b : Bool) : (w.set r.ix b)[r.ix] = b := by
  rw [waiting_set, if_pos rfl]

theorem waiting_set_other (w : Vector Bool 5) {r q : Requester} (b : Bool) (h : r ≠ q) :
    (w.set r.ix b)[q.ix] = w[q.ix] := by
  rw [waiting_set, if_neg h]

theorem Requester.exists_ix (i : Fin 5) : ∃ r : Requester, r.ix = i := by
  cases i using Fin.cases with
  | zero => exact ⟨.fold, rfl⟩
  | succ p => exact ⟨.slot p, rfl⟩

theorem nothingWaits_iff (s : State) : s.nothingWaits ↔ ∀ r : Requester, s.arbiter.waiting[r.ix] = false := by
  refine ⟨fun h r => h r.ix, fun h i => ?_⟩
  obtain ⟨r, rfl⟩ := Requester.exists_ix i
  exact h r

/-! ## Rotations (R156) -/

/-- The first place of a walk that qualifies is the nearest, when the walk goes by growing distance. -/
theorem find?_nearest {α : Type} {l : List α} {distance : α → Nat} {p : α → Bool} {x : α}
    (walk : l.Pairwise fun a b => distance a < distance b) (h : l.find? p = some x) :
    p x = true ∧ ∀ y ∈ l, p y = true → distance x ≤ distance y := by
  obtain ⟨hx, passed, later, rfl, hpassed⟩ := List.find?_eq_some_iff_append.1 h
  refine ⟨hx, fun y hy hp => ?_⟩
  rcases List.mem_append.1 hy with hy | hy
  · simpa [hp] using hpassed y hy
  · rcases List.mem_cons.1 hy with rfl | hy
    · exact le_rfl
    · exact ((List.pairwise_cons.1 (List.pairwise_append.1 walk).2.1).1 y hy).le

/-- Number of a place of the high rotation (R156). -/
def HighPlace.number : HighPlace → Nat
  | .requester r => r.ix.val
  | .low => 5

/-- Number of a place of the low rotation (R156). -/
def Requester.lowNumber : Requester → Nat
  | .slot p => p.val
  | .fold => 4

/-- The high rotation from a place on goes round by growing distance and misses no place. -/
theorem highRotation (last : HighPlace) :
    ((after last highOrder).Pairwise fun x y =>
      (x.number + 5 - last.number) % 6 < (y.number + 5 - last.number) % 6) ∧ ∀ x, x ∈ after last highOrder := by
  have places (x : HighPlace) : x ∈ highOrder := by
    rcases x with (_ | p) | _
    · decide
    · revert p; decide
    · decide
  have rotated (l : List HighPlace) (h : ∀ x ∈ highOrder, x ∈ l) (x : HighPlace) : x ∈ l := h x (places x)
  rcases last with (_ | p) | _
  · exact ⟨by decide, rotated _ (by decide)⟩
  · exact ⟨by revert p; decide, rotated _ (by revert p; decide)⟩
  · exact ⟨by decide, rotated _ (by decide)⟩

/-- The low rotation from a requester on goes round by growing distance and misses no requester. -/
theorem lowRotation (last : Requester) :
    ((after last lowOrder).Pairwise fun x y =>
      (x.lowNumber + 4 - last.lowNumber) % 5 < (y.lowNumber + 4 - last.lowNumber) % 5) ∧
      ∀ x, x ∈ after last lowOrder := by
  have places (x : Requester) : x ∈ lowOrder := by
    rcases x with _ | p
    · decide
    · revert p; decide
  have rotated (l : List Requester) (h : ∀ x ∈ lowOrder, x ∈ l) (x : Requester) : x ∈ l := h x (places x)
  rcases last with _ | p
  · exact ⟨by decide, rotated _ (by decide)⟩
  · exact ⟨by revert p; decide, rotated _ (by revert p; decide)⟩

theorem mem_lowOrder (r : Requester) : r ∈ lowOrder := by
  rcases r with _ | p
  · decide
  · revert p; decide

/-! ## The choice (R156) -/

section Choice

variable (a : Arbiter) (tiers : Vector Tier 5)

theorem lowWaiting_iff (r : Requester) :
    a.lowWaiting tiers r = true ↔ tiers[r.ix] = .low ∧ a.waiting[r.ix] = true := by
  simp [Arbiter.lowWaiting]

theorem eligible_requester_iff (r : Requester) :
    a.eligible tiers (.requester r) = true ↔ tiers[r.ix] = .high ∧ a.waiting[r.ix] = true := by
  simp [Arbiter.eligible]

theorem eligible_low_iff :
    a.eligible tiers .low = true ↔ ∃ r : Requester, tiers[r.ix] = .low ∧ a.waiting[r.ix] = true := by
  simp [Arbiter.eligible, lowWaiting_iff, mem_lowOrder]

/-- A waiting requester makes its place, or LOW, eligible. -/
theorem exists_eligible_of_waiting {r : Requester} (h : a.waiting[r.ix] = true) :
    ∃ x, a.eligible tiers x = true := by
  cases ht : tiers[r.ix] with
  | high => exact ⟨.requester r, (eligible_requester_iff a tiers r).2 ⟨ht, h⟩⟩
  | low => exact ⟨.low, (eligible_low_iff a tiers).2 ⟨r, ht, h⟩⟩

/-- The arbiter chooses the nearest eligible place of the high rotation; through LOW, the nearest waiting LOW requester
(R156). -/
theorem choose_cases :
    (a.choose tiers = none ∧ ∀ r : Requester, a.waiting[r.ix] = false) ∨
    (∃ r, a.choose tiers = some (r, .requester r, a.low) ∧
      (after a.high highOrder).find? (a.eligible tiers) = some (.requester r)) ∨
    (∃ r, a.choose tiers = some (r, .low, r) ∧
      (after a.high highOrder).find? (a.eligible tiers) = some .low ∧
      (after a.low lowOrder).find? (a.lowWaiting tiers) = some r) := by
  cases hhigh : (after a.high highOrder).find? (a.eligible tiers) with
  | none =>
    refine .inl ⟨by simp only [Arbiter.choose, hhigh], fun r => ?_⟩
    by_contra hr
    obtain ⟨x, hx⟩ := exists_eligible_of_waiting a tiers (Bool.eq_true_of_not_eq_false hr)
    exact List.find?_eq_none.1 hhigh x ((highRotation a.high).2 x) hx
  | some place =>
    cases place with
    | requester r => exact .inr (.inl ⟨r, by simp only [Arbiter.choose, hhigh], rfl⟩)
    | low =>
      obtain ⟨r, hr⟩ := (eligible_low_iff a tiers).1 (List.find?_some hhigh)
      cases hlow : (after a.low lowOrder).find? (a.lowWaiting tiers) with
      | none => exact (List.find?_eq_none.1 hlow r ((lowRotation a.low).2 r) ((lowWaiting_iff a tiers r).2 hr)).elim
      | some q => exact .inr (.inr ⟨q, by simp only [Arbiter.choose, hhigh, hlow], rfl, rfl⟩)

theorem choose_eq_none_iff : a.choose tiers = none ↔ ∀ r : Requester, a.waiting[r.ix] = false := by
  rcases choose_cases a tiers with ⟨h, hnone⟩ | ⟨r, h, hfind⟩ | ⟨r, h, _, hfind⟩
  · exact ⟨fun _ => hnone, fun _ => h⟩
  · have waits := ((eligible_requester_iff a tiers r).1 (List.find?_some hfind)).2
    exact ⟨fun hc => (Option.some_ne_none _ (h.symm.trans hc)).elim, fun hn => by simp [hn r] at waits⟩
  · have waits := ((lowWaiting_iff a tiers r).1 (List.find?_some hfind)).2
    exact ⟨fun hc => (Option.some_ne_none _ (h.symm.trans hc)).elim, fun hn => by simp [hn r] at waits⟩

variable {a tiers} {r : Requester} {high : HighPlace} {low : Requester}

/-- The requester chosen waits, and its tier says which pointers move (R156). -/
theorem choose_some (h : a.choose tiers = some (r, high, low)) :
    a.waiting[r.ix] = true ∧
      (tiers[r.ix] = .high ∧ high = .requester r ∧ low = a.low ∨ tiers[r.ix] = .low ∧ high = .low ∧ low = r) ∧
      (after a.high highOrder).find? (a.eligible tiers) = some high ∧
      (high = .low → (after a.low lowOrder).find? (a.lowWaiting tiers) = some r) := by
  rcases choose_cases a tiers with ⟨hc, _⟩ | ⟨q, hc, hfind⟩ | ⟨q, hc, hfind, hlow⟩ <;> cases hc.symm.trans h
  · obtain ⟨tier, waits⟩ := (eligible_requester_iff a tiers r).1 (List.find?_some hfind)
    exact ⟨waits, .inl ⟨tier, rfl, rfl⟩, hfind, HighPlace.noConfusion⟩
  · obtain ⟨tier, waits⟩ := (lowWaiting_iff a tiers r).1 (List.find?_some hlow)
    exact ⟨waits, .inr ⟨tier, rfl, rfl⟩, hfind, fun _ => hlow⟩

/-- With one requester waiting, the arbiter chooses it, in its own place or through LOW. -/
theorem choose_only (waits : a.waiting[r.ix] = true) (alone : ∀ q : Requester, a.waiting[q.ix] = true → q = r) :
    a.choose tiers = some (r, if tiers[r.ix] = .high then .requester r else .low,
      if tiers[r.ix] = .high then a.low else r) := by
  cases hc : a.choose tiers with
  | none => simp [(choose_eq_none_iff a tiers).1 hc r] at waits
  | some chosen =>
    obtain ⟨q, high, low⟩ := chosen
    obtain ⟨chosenWaits, pointers, _⟩ := choose_some hc
    cases alone q chosenWaits
    rcases pointers with ⟨tier, rfl, rfl⟩ | ⟨tier, rfl, rfl⟩ <;> simp [tier]

end Choice

/-- Settles O28: `choose_cases` says where the choice comes from, and `find?_nearest` that nothing nearer was passed. -/
theorem arbiterFollowsTheRotations : Obligations.ArbiterFollowsTheRotations := by
  intro a tiers highNumber lowNumber waits eligible
  have highNumber_eq : highNumber = HighPlace.number := by funext x; cases x <;> rfl
  have lowNumber_eq : lowNumber = Requester.lowNumber := by funext r; cases r <;> rfl
  have eligible_iff (x : HighPlace) : eligible x ↔ a.eligible tiers x = true := by
    cases x with
    | requester r => exact (eligible_requester_iff a tiers r).symm
    | low => exact (eligible_low_iff a tiers).symm
  refine ⟨by simp only [choose_eq_none_iff, waits, Bool.not_eq_true], fun r high low h => ?_⟩
  obtain ⟨chosenWaits, pointers, hfind, hlow⟩ := choose_some h
  obtain ⟨highEligible, nearest⟩ := find?_nearest (highRotation a.high).1 hfind
  refine ⟨chosenWaits, (eligible_iff high).2 highEligible, fun tier => ?_, fun tier => ?_, fun x hx => ?_,
    fun through x tier xWaits => ?_⟩
  · rcases pointers with ⟨_, h⟩ | ⟨tier', _⟩
    · exact h
    · cases tier.symm.trans tier'
  · rcases pointers with ⟨tier', _⟩ | ⟨_, h⟩
    · cases tier.symm.trans tier'
    · exact h
  · rw [highNumber_eq]
    exact nearest x ((highRotation a.high).2 x) ((eligible_iff x).1 hx)
  · rw [lowNumber_eq]
    exact (find?_nearest (lowRotation a.low).1 (hlow through)).2 x ((lowRotation a.low).2 x)
      ((lowWaiting_iff a tiers x).2 ⟨tier, xWaits⟩)

/-! ## Grants (R143, R157) -/

theorem grant_none {s : State} (h : s.nothingWaits) : s.grant = s := by
  rcases grant_cases s with ⟨r, high, low, _, _, hc, _⟩ | ⟨hg, _⟩
  · have waits := (choose_some hc).1
    simp [(nothingWaits_iff s).1 h r] at waits
  · exact hg

theorem grant_chosen {s : State} (ready : s.phase = .ready) (idle : s.engine = .idle) {r : Requester}
    {high : HighPlace} {low : Requester} (h : s.arbiter.choose s.settings.tiers = some (r, high, low)) :
    s.grant = State.begin
      { s with arbiter := { high := high, low := low, waiting := s.arbiter.waiting.set r.ix false } } r := by
  simp only [State.grant, ready, idle, h]

theorem begin_fold {s : State} {i : Interval} (h : s.foldState = .foldWait i) :
    s.begin .fold = { s with foldState := .folding i, engine := .fold (FoldRun.begin i s.settings) } := by
  simp only [State.begin, h]

/-- The operation that a granted slot begins on the engine (R109, R148). -/
def State.operation (s : State) (p : Port) : LongRequest → Engine
  | .planBuild m => .build p
      { machine := m, windows := s.windows[m], queue := s.queues[m].entries, stamp := s.lastFolded, watch := false }
  | _ => .lookup p

theorem State.operation_occupant (s : State) (p : Port) (req : LongRequest) :
    (s.operation p req).occupant = some (.slot p) := by
  cases req <;> rfl

theorem begin_slot {s : State} {p : Port} {copy : RequestCopy} (h : s.slots[p] = .waiting copy) :
    s.begin (.slot p) =
      { s with slots := s.slots.set p (.running copy), engine := s.operation p copy.request } := by
  simp only [State.begin, h]
  cases copy.request <;> rfl

/-- A requester that starts to wait with the engine idle and nothing else waiting is granted at once (R157). -/
theorem startWaiting_alone {s : State} (ready : s.phase = .ready) (idle : s.engine = .idle) (h : s.nothingWaits)
    (r : Requester) :
    s.startWaiting r = State.begin
      { s with arbiter :=
          { high := if s.settings.tiers[r.ix] = .high then .requester r else .low
            low := if s.settings.tiers[r.ix] = .high then s.arbiter.low else r
            waiting := s.arbiter.waiting } } r := by
  have none := (nothingWaits_iff s).1 h
  have chosen : (s.arbiter.wait r).choose s.settings.tiers = _ :=
    choose_only (r := r) (waiting_set_same ..) fun q hq => by
      by_contra hne
      rw [Arbiter.wait, waiting_set_other _ _ (Ne.symm hne), none q] at hq
      cases hq
  have cleared : ((s.arbiter.wait r).waiting.set r.ix false) = s.arbiter.waiting := by
    refine table_ext fun i => ?_
    obtain ⟨q, rfl⟩ := Requester.exists_ix i
    rw [waiting_set]
    split
    · next hq => subst hq; exact (none r).symm
    · next hq => rw [Arbiter.wait, waiting_set, if_neg hq]
  unfold State.startWaiting
  rw [grant_chosen (s := { s with arbiter := s.arbiter.wait r }) ready idle chosen]
  simp only [cleared]
  rfl

/-! ## Agreement of slots, fold state, waiting set and engine -/

/-- EngineAgreement but for its last clause, in terms of the four fields it speaks of: what holds also between the
release of the engine and its grant. -/
structure Coherent (slots : Vector Slot 4) (foldState : FoldState) (waiting : Vector Bool 5) (engine : Engine) :
    Prop where
  slotWaits : ∀ p : Port, (∃ c, slots[p] = .waiting c) ↔ waiting[(Requester.slot p).ix] = true
  slotRuns : ∀ p : Port, (∃ c, slots[p] = .running c) ↔ engine.occupant = some (.slot p)
  foldWaits : (∃ i, foldState = .foldWait i) ↔ waiting[Requester.fold.ix] = true
  folds : (∃ i, foldState = .folding i) ↔ ∃ run, engine = .fold run ∧ run.stage ≠ .release

theorem engineAgreement_iff (s : State) :
    EngineAgreement s ↔ Coherent s.slots s.foldState s.arbiter.waiting s.engine ∧
      (s.engine = .idle → s.nothingWaits) :=
  ⟨fun h => ⟨⟨h.slotWaits, h.slotRuns, h.foldWaits, h.folds⟩, h.idle⟩,
    fun ⟨c, idle⟩ => ⟨c.slotWaits, c.slotRuns, c.foldWaits, c.folds, idle⟩⟩

theorem Engine.occupant_fold_iff {en : Engine} : en.occupant = some .fold ↔ ∃ run, en = .fold run := by
  cases en <;> simp [Engine.occupant]

section Coherent

variable {slots : Vector Slot 4} {foldState : FoldState} {waiting : Vector Bool 5} {engine : Engine}

/-- The engine released: no slot runs, and no fold is before its fifth stage. -/
theorem Coherent.idle (h : Coherent slots foldState waiting engine) (slot : ∀ p, engine.occupant ≠ some (.slot p))
    (fold : ∀ run, engine = .fold run → run.stage = .release) : Coherent slots foldState waiting .idle where
  slotWaits := h.slotWaits
  slotRuns p := by simpa [Engine.occupant] using (h.slotRuns p).not.2 (slot p)
  foldWaits := h.foldWaits
  folds := by
    simpa using h.folds.not.2 fun ⟨run, heq, hstage⟩ => hstage (fold run heq)

/-- The granted fold begins (R31). -/
theorem Coherent.beginFold {i : Interval} (h : Coherent slots (.foldWait i) waiting .idle) (st : Settings) :
    Coherent slots (.folding i) (waiting.set Requester.fold.ix false) (.fold (FoldRun.begin i st)) where
  slotWaits p := by
    rw [waiting_set_other _ _ (Requester.fold_ne_slot p)]
    exact h.slotWaits p
  slotRuns p := by simpa [Engine.occupant] using h.slotRuns p
  foldWaits := by
    rw [waiting_set_same]
    simp
  folds := by simp [FoldRun.begin]

/-- The granted slot begins (R148). -/
theorem Coherent.beginSlot {p : Port} (h : Coherent slots foldState waiting .idle) (c : RequestCopy)
    (runs : engine.occupant = some (.slot p)) :
    Coherent (slots.set p (.running c)) foldState (waiting.set (Requester.slot p).ix false) engine where
  slotWaits q := by
    rw [get_set, waiting_set]
    by_cases hq : p = q
    · subst hq
      simp
    · simpa [hq] using h.slotWaits q
  slotRuns q := by
    rw [get_set, runs]
    by_cases hq : p = q
    · simp [hq]
    · simpa [hq, Engine.occupant] using h.slotRuns q
  foldWaits := by
    rw [waiting_set_other _ _ (Requester.fold_ne_slot p).symm]
    exact h.foldWaits
  folds := by
    have notFold (run : FoldRun) : engine ≠ .fold run := by
      rintro rfl
      simp [Engine.occupant] at runs
    have none : ¬ ∃ i, foldState = .folding i := by simpa using h.folds
    simp only [none, notFold, false_and, exists_false]

/-- A slot that neither waits nor runs, before and after. -/
theorem Coherent.setSlot {p : Port} {slot : Slot} (h : Coherent slots foldState waiting engine)
    (before : ∀ c, slots[p] ≠ .waiting c ∧ slots[p] ≠ .running c)
    (now : ∀ c, slot ≠ .waiting c ∧ slot ≠ .running c) : Coherent (slots.set p slot) foldState waiting engine where
  slotWaits q := by
    rw [← h.slotWaits q, get_set]
    split
    · next hq =>
      subst hq
      exact iff_of_false (fun ⟨c, hc⟩ => (now c).1 hc) fun ⟨c, hc⟩ => (before c).1 hc
    · rfl
  slotRuns q := by
    rw [← h.slotRuns q, get_set]
    split
    · next hq =>
      subst hq
      exact iff_of_false (fun ⟨c, hc⟩ => (now c).2 hc) fun ⟨c, hc⟩ => (before c).2 hc
    · rfl
  foldWaits := h.foldWaits
  folds := h.folds

/-- An EMPTY slot that takes a long request waits (R146). -/
theorem Coherent.ask {p : Port} (h : Coherent slots foldState waiting engine) (empty : slots[p] = .empty)
    (c : RequestCopy) :
    Coherent (slots.set p (.waiting c)) foldState (waiting.set (Requester.slot p).ix true) engine where
  slotWaits q := by
    rw [get_set, waiting_set]
    by_cases hq : p = q
    · simp [hq]
    · simpa [hq] using h.slotWaits q
  slotRuns q := by
    rw [← h.slotRuns q, get_set]
    split
    · next hq =>
      subst hq
      simp [empty]
    · rfl
  foldWaits := by
    rw [waiting_set_other _ _ (Requester.fold_ne_slot p).symm]
    exact h.foldWaits
  folds := h.folds

/-- A slot emptied, its requester withdrawn, and its operation off the engine (R149, R152). -/
theorem Coherent.clearSlot {p : Port} {slot : Slot} {en : Engine} (h : Coherent slots foldState waiting engine)
    (now : ∀ c, slot ≠ .waiting c ∧ slot ≠ .running c) (off : en.occupant ≠ some (.slot p))
    (others : ∀ q, q ≠ p → (en.occupant = some (.slot q) ↔ engine.occupant = some (.slot q)))
    (fold : (∃ run, en = .fold run ∧ run.stage ≠ .release) ↔ ∃ run, engine = .fold run ∧ run.stage ≠ .release) :
    Coherent (slots.set p slot) foldState (waiting.set (Requester.slot p).ix false) en where
  slotWaits q := by
    rw [get_set, waiting_set]
    by_cases hq : p = q
    · simp [hq, now]
    · simpa [hq] using h.slotWaits q
  slotRuns q := by
    rw [get_set]
    by_cases hq : p = q
    · subst hq
      simp [now, off]
    · rw [if_neg hq, h.slotRuns q, others q (Ne.symm hq)]
  foldWaits := by
    rw [waiting_set_other _ _ (Requester.fold_ne_slot p).symm]
    exact h.foldWaits
  folds := h.folds.trans fold.symm

/-- A slot whose operation leaves the engine idle (R149, R152). -/
theorem Coherent.endOperation {p : Port} {slot : Slot} (h : Coherent slots foldState waiting engine)
    (runs : engine.occupant = some (.slot p)) (now : ∀ c, slot ≠ .waiting c ∧ slot ≠ .running c) :
    Coherent (slots.set p slot) foldState (waiting.set (Requester.slot p).ix false) .idle := by
  refine h.clearSlot now nofun (fun q hq => iff_of_false nofun fun hother => ?_)
    (iff_of_false (fun ⟨_, heq, _⟩ => Engine.noConfusion heq) fun ⟨_, heq, _⟩ => ?_)
  · cases runs.symm.trans hother
    exact hq rfl
  · rw [heq] at runs
    cases runs

/-- A fold in IDLE that starts to wait (R29). -/
theorem Coherent.foldWait (h : Coherent slots .idle waiting engine) (i : Interval) :
    Coherent slots (.foldWait i) (waiting.set Requester.fold.ix true) engine where
  slotWaits p := by
    rw [waiting_set_other _ _ (Requester.fold_ne_slot p)]
    exact h.slotWaits p
  slotRuns := h.slotRuns
  foldWaits := by
    rw [waiting_set_same]
    simp
  folds := by simpa using h.folds

/-- The closed bank cleared: the fold state IDLE while the fold is before its release (R32). -/
theorem Coherent.cleared {run after : FoldRun} (h : Coherent slots foldState waiting (.fold run))
    (before : run.stage ≠ .release) (now : after.stage = .release) : Coherent slots .idle waiting (.fold after) where
  slotWaits := h.slotWaits
  slotRuns := h.slotRuns
  foldWaits := by
    obtain ⟨i, rfl⟩ := h.folds.2 ⟨run, rfl, before⟩
    simpa using h.foldWaits
  folds := by simp [now]

/-- A requester that does not wait leaves the waiting set as it is. -/
theorem waiting_set_false {r : Requester} (h : waiting[r.ix] = false) : waiting.set r.ix false = waiting := by
  refine table_ext fun i => ?_
  rw [get_set]
  split
  · next hi => subst hi; exact h.symm
  · rfl

end Coherent

theorem engineAgrees_iff (s : State) :
    EngineAgrees s ↔ (s.phase = .ready → Coherent s.slots s.foldState s.arbiter.waiting s.engine ∧
      (s.engine = .idle → s.nothingWaits)) := by
  simp only [EngineAgrees, engineAgreement_iff]

/-- A grant brings a coherent part into agreement: an idle engine is left idle only when nothing waits (R157). -/
theorem grant_agrees {s : State} (h : s.phase = .ready → Coherent s.slots s.foldState s.arbiter.waiting s.engine) :
    EngineAgrees s.grant := by
  refine (engineAgrees_iff _).2 fun ready => ?_
  have ready : s.phase = .ready := by simpa only [State.grant_frame] using ready
  have coherent := h ready
  rcases grant_cases s with ⟨r, high, low, _, idle, hc, hg⟩ | ⟨hg, hnone⟩ <;> rw [hg]
  · have waits := (choose_some hc).1
    rw [idle] at coherent
    cases r with
    | fold =>
      obtain ⟨i, hi⟩ := coherent.foldWaits.2 waits
      rw [hi] at coherent
      rw [begin_fold (by exact hi)]
      exact ⟨coherent.beginFold s.settings, Engine.noConfusion⟩
    | slot p =>
      obtain ⟨c, hp⟩ := (coherent.slotWaits p).2 waits
      rw [begin_slot (by exact hp)]
      refine ⟨coherent.beginSlot c (State.operation_occupant ..), fun heq => ?_⟩
      have runs := State.operation_occupant
        { s with arbiter := { high := high, low := low, waiting := s.arbiter.waiting.set (Requester.slot p).ix false } }
        p c.request
      exact absurd ((congrArg Engine.occupant heq).symm.trans runs) (by simp [Engine.occupant])
  · refine ⟨coherent, fun idle => (nothingWaits_iff s).2 ((choose_eq_none_iff _ _).1 (hnone ready idle))⟩

theorem engineAgrees_of_same {s t : State} (hs : EngineAgrees s) (slots : t.slots = s.slots)
    (foldState : t.foldState = s.foldState) (arbiter : t.arbiter = s.arbiter) (engine : t.engine = s.engine)
    (phase : t.phase = s.phase) : EngineAgrees t := by
  rw [engineAgrees_iff] at hs ⊢
  unfold State.nothingWaits at *
  rwa [slots, foldState, arbiter, engine, phase]

theorem Engine.watch_occupant (en : Engine) (m : MachineId) : (en.watch m).occupant = en.occupant := by
  cases en with
  | build p run =>
    unfold Engine.watch
    dsimp only
    split <;> rfl
  | _ => rfl

theorem Engine.watch_eq_fold_iff {en : Engine} {m : MachineId} {run : FoldRun} :
    en.watch m = .fold run ↔ en = .fold run := by
  cases en with
  | build p b =>
    unfold Engine.watch
    dsimp only
    split <;> simp
  | _ => rfl

/-- Agreement under another engine record of the same occupant and the same place in the fold. -/
theorem EngineAgrees.withEngine {s : State} (hs : EngineAgrees s) {en : Engine}
    (occupant : en.occupant = s.engine.occupant)
    (fold : (∃ run, en = .fold run ∧ run.stage ≠ .release) ↔ ∃ run, s.engine = .fold run ∧ run.stage ≠ .release) :
    EngineAgrees { s with engine := en } := by
  refine fun ready => ⟨(hs ready).slotWaits, fun p => ((hs ready).slotRuns p).trans ?_, (hs ready).foldWaits,
    (hs ready).folds.trans fold.symm, fun idle => (hs ready).idle ?_⟩
  · rw [occupant]
  · have none : s.engine.occupant = none := by rw [← occupant]; exact congrArg Engine.occupant idle
    cases he : s.engine <;> simp [Engine.occupant, he] at none ⊢

/-- Start-up leaves every slot EMPTY, the engine idle and nothing waiting (R183). -/
theorem engineAgrees_entered (s : State) : EngineAgrees s.rebuild.resetVolatile.sampled := by
  have slots (p : Port) : s.rebuild.resetVolatile.sampled.slots[p] = .empty := get_replicate ..
  have waiting (r : Requester) : s.rebuild.resetVolatile.sampled.arbiter.waiting[r.ix] = false := get_replicate ..
  have engine : s.rebuild.resetVolatile.sampled.engine = .idle := rfl
  have foldState : s.rebuild.resetVolatile.sampled.foldState = .idle := rfl
  refine (engineAgrees_iff _).2 fun _ => ⟨⟨fun p => ?_, fun p => ?_, ?_, ?_⟩, fun _ => (nothingWaits_iff _).2 waiting⟩
  · rw [slots, waiting]
    simp
  · rw [slots, engine]
    simp [Engine.occupant]
  · rw [foldState, waiting]
    simp
  · rw [foldState, engine]
    simp

theorem FoldStage.Precedes.ne_release {a b : FoldStage} (h : a.Precedes b) : a ≠ .release ∧ b ≠ .release := by
  cases h with
  | step e =>
    refine ⟨FoldStage.noConfusion, ?_⟩
    unfold FoldStage.afterStep
    split <;> exact FoldStage.noConfusion
  | markStale => exact ⟨FoldStage.noConfusion, FoldStage.noConfusion⟩
  | handHits => exact ⟨FoldStage.noConfusion, FoldStage.noConfusion⟩

theorem move_keeps_engineAgreement {s t : State} (move : Move s t) (hs : EngineAgrees s) : EngineAgrees t := by
  have atReady := (engineAgrees_iff s).1 hs
  cases move with
  | queue | links | plans | timer | supply | attention | settings | enable | define | amend | place | suspend | vacate
  | append | windows | mark => exact engineAgrees_of_same hs rfl rfl rfl rfl rfl
  | bank =>
    exact engineAgrees_of_same hs (State.setBank_slots ..) (State.setBank_foldState ..) (State.setBank_arbiter ..)
      (State.setBank_engine ..) (State.setBank_phase ..)
  | watch m => exact hs.withEngine (Engine.watch_occupant ..) (by simp only [Engine.watch_eq_fold_iff])
  | foldStage run after engine _ stage =>
    refine hs.withEngine (by rw [engine]; rfl) ?_
    rw [engine]
    exact iff_of_true ⟨after, rfl, stage.ne_release.2⟩ ⟨run, rfl, stage.ne_release.1⟩
  | storeFold run engine stage =>
    have stored := hs.withEngine (en := (storeFold run s).engine) (by rw [engine]; rfl) <| by
      rw [engine]
      exact iff_of_true ⟨_, rfl, nofun⟩ ⟨run, rfl, by rw [stage]; nofun⟩
    exact engineAgrees_of_same stored rfl rfl rfl rfl rfl
  | clearBank run engine stage =>
    refine (engineAgrees_iff _).2 fun ready => ⟨?_, nofun⟩
    have coherent := (atReady (by simpa using ready)).1
    rw [engine] at coherent
    simpa using coherent.cleared (after := { run with stage := .release }) (by rw [stage]; nofun) rfl
  | release run engine stage =>
    refine grant_agrees fun ready => (atReady ready).1.idle (fun p => ?_) fun run' h => ?_
    · rw [engine]
      nofun
    · cases engine.symm.trans h
      exact stage
  | swap idle =>
    refine grant_agrees fun ready => ?_
    have coherent := (atReady ready).1
    rw [idle] at coherent
    exact coherent.foldWait _
  | ask p copy empty => exact grant_agrees fun ready => (atReady ready).1.ask empty copy
  | hold p slot held after =>
    refine (engineAgrees_iff _).2 fun ready => ⟨(atReady ready).1.setSlot (fun c => ?_) fun c => ?_, (atReady ready).2⟩
    · obtain ⟨_, _, _, held⟩ := held
      rw [held]
      exact ⟨nofun, nofun⟩
    · rcases after with rfl | ⟨_, _, _, rfl⟩ <;> exact ⟨nofun, nofun⟩
  | finish p c r n runs =>
    refine grant_agrees fun ready => ?_
    have coherent := (atReady ready).1
    obtain ⟨copy, running⟩ := (coherent.slotRuns p).2 runs
    have idle : s.arbiter.waiting[(Requester.slot p).ix] = false := by
      rw [← Bool.not_eq_true, ← coherent.slotWaits, running]
      simp
    have cleared := coherent.endOperation (slot := .ready c r n) runs fun c => ⟨nofun, nofun⟩
    rwa [waiting_set_false idle] at cleared
  | resetSlot p =>
    rcases resetSlot_cases s p with ⟨heq, notLookup, notBuild⟩ | ⟨heq, runs⟩ <;> rw [heq]
    · have off : s.engine.occupant ≠ some (.slot p) := by
        cases he : s.engine <;> simp_all [Engine.occupant]
      refine (engineAgrees_iff _).2 fun ready => ⟨(atReady ready).1.clearSlot (fun c => ⟨nofun, nofun⟩) off
        (fun _ _ => .rfl) .rfl, fun idle => (nothingWaits_iff _).2 fun q => ?_⟩
      have none := (nothingWaits_iff s).1 ((atReady ready).2 idle) q
      rw [Arbiter.leave, waiting_set]
      split
      · rfl
      · exact none
    · have runs : s.engine.occupant = some (.slot p) := by
        rcases runs with h | ⟨_, h⟩ <;> rw [h] <;> rfl
      exact grant_agrees fun ready => (atReady ready).1.endOperation runs fun c => ⟨nofun, nofun⟩
  | startUp => exact fun starting => (Phase.noConfusion starting : False).elim
  | enterReady => exact engineAgrees_entered s.repair

/-- Settles O58: each move that touches slots, fold state, waiting set or engine keeps them coherent, and each release
and each new requester ends in a grant. -/
theorem everyStepKeepsEngineAgreement : Obligations.EveryStepKeepsEngineAgreement :=
  fun _ _ => step_keeps move_keeps_engineAgreement

end Sys2Proof.Machine

/-! # Proofs: interval numbers, triggers and the clock (chapters 2 and 8) -/

namespace Sys2Proof.Machine

/-! ## Interval numbers by fold state (R28, R39) -/

/-- Whether a fold at a stage has stored its interval in F (R58). -/
def FoldStage.stored : FoldStage → Bool
  | .step _ => false
  | .store => false
  | _ => true

section Numbers

variable {s : State}

theorem intervalNumbers_idle (h : s.foldState = .idle) :
    IntervalNumbersAgree s ↔ (s.phase = .ready →
      s.openInterval = nextInterval s.lastFolded ∧ s.pendingTrigger = false ∧ s.closedBank = Bank.zero ∧
        ∀ run, s.engine = .fold run → run.stage = .release) := by
  unfold IntervalNumbersAgree
  rw [h]

theorem intervalNumbers_foldWait {closed : Interval} (h : s.foldState = .foldWait closed) :
    IntervalNumbersAgree s ↔ (s.phase = .ready →
      closed = nextInterval s.lastFolded ∧ s.openInterval = nextInterval closed ∧
        ∀ run, s.engine = .fold run → run.stage = .release) := by
  unfold IntervalNumbersAgree
  rw [h]

/-- While a fold runs before its fifth stage, the closed interval is F once it is stored, and follows F before that. -/
theorem intervalNumbers_folding {closed : Interval} (h : s.foldState = .folding closed) :
    IntervalNumbersAgree s ↔ (s.phase = .ready →
      s.openInterval = nextInterval closed ∧ ∃ run, s.engine = .fold run ∧ run.interval = closed ∧
        run.stage ≠ .release ∧
        closed = if run.stage.stored then s.lastFolded else nextInterval s.lastFolded) := by
  unfold IntervalNumbersAgree
  rw [h]
  constructor
  · intro hs ready
    obtain ⟨opened, run, engine, interval, byStage⟩ := hs ready
    refine ⟨opened, run, engine, interval, ?_⟩
    cases hstage : run.stage with
    | release => rw [hstage] at byStage; exact byStage.elim
    | _ => rw [hstage] at byStage; exact ⟨nofun, byStage⟩
  · intro hs ready
    obtain ⟨opened, run, engine, interval, notLast, closed⟩ := hs ready
    refine ⟨opened, run, engine, interval, ?_⟩
    cases hstage : run.stage with
    | release => exact notLast hstage
    | _ => rw [hstage] at closed; exact closed

theorem intervalNumbers_of_same {t : State} (hs : IntervalNumbersAgree s) (foldState : t.foldState = s.foldState)
    (opened : t.openInterval = s.openInterval) (lastFolded : t.lastFolded = s.lastFolded)
    (pendingTrigger : t.pendingTrigger = s.pendingTrigger) (closedBank : t.closedBank = s.closedBank)
    (engine : ∀ run, t.engine = .fold run ↔ s.engine = .fold run) (phase : t.phase = s.phase) :
    IntervalNumbersAgree t := by
  cases hf : s.foldState with
  | idle =>
    rw [intervalNumbers_idle hf] at hs
    rw [intervalNumbers_idle (foldState.trans hf)]
    simpa only [opened, lastFolded, pendingTrigger, closedBank, engine, phase] using hs
  | foldWait i =>
    rw [intervalNumbers_foldWait hf] at hs
    rw [intervalNumbers_foldWait (foldState.trans hf)]
    simpa only [opened, lastFolded, engine, phase] using hs
  | folding i =>
    rw [intervalNumbers_folding hf] at hs
    rw [intervalNumbers_folding (foldState.trans hf)]
    simpa only [opened, lastFolded, engine, phase] using hs

/-- The closed bank is told by the two banks and the indicator. -/
theorem closedBank_of_same {t : State} (a : t.bankA = s.bankA) (b : t.bankB = s.bankB)
    (active : t.activeBank = s.activeBank) : t.closedBank = s.closedBank := by
  unfold State.closedBank State.bank
  rw [a, b, active]

/-- A fold past its last element step and before its fifth stage goes with FOLDING. -/
theorem folding_of_stage (hs : IntervalNumbersAgree s) (ready : s.phase = .ready) {run : FoldRun}
    (engine : s.engine = .fold run) (stage : run.stage ≠ .release) :
    s.foldState = .folding run.interval ∧ s.openInterval = nextInterval run.interval ∧
      run.interval = if run.stage.stored then s.lastFolded else nextInterval s.lastFolded := by
  cases hf : s.foldState with
  | idle =>
    obtain ⟨_, _, _, last⟩ := (intervalNumbers_idle hf).1 hs ready
    exact (stage (last run engine)).elim
  | foldWait i =>
    obtain ⟨_, _, last⟩ := (intervalNumbers_foldWait hf).1 hs ready
    exact (stage (last run engine)).elim
  | folding i =>
    obtain ⟨opened, run', engine', rfl, _, closed⟩ := (intervalNumbers_folding hf).1 hs ready
    cases engine.symm.trans engine'
    exact ⟨rfl, opened, closed⟩

/-- The engine taken from a fold in its fifth stage, or from an operation that is no fold. -/
theorem intervalNumbers_released (hs : IntervalNumbersAgree s)
    (last : ∀ run, s.engine = .fold run → run.stage = .release) : IntervalNumbersAgree { s with engine := .idle } := by
  cases hf : s.foldState with
  | idle =>
    refine (intervalNumbers_idle rfl).2 fun ready => ?_
    obtain ⟨opened, trigger, bank, _⟩ := (intervalNumbers_idle hf).1 hs ready
    exact ⟨opened, trigger, bank, nofun⟩
  | foldWait i =>
    refine (intervalNumbers_foldWait rfl).2 fun ready => ?_
    obtain ⟨closed, opened, _⟩ := (intervalNumbers_foldWait hf).1 hs ready
    exact ⟨closed, opened, nofun⟩
  | folding i =>
    refine (intervalNumbers_folding rfl).2 fun ready => ?_
    obtain ⟨_, run, engine, _, notLast, _⟩ := (intervalNumbers_folding hf).1 hs ready
    exact (notLast (last run engine)).elim

/-- An idle engine goes to a fold in FOLD_WAIT, which then folds the closed interval, or to an operation that is no
fold. -/
theorem intervalNumbers_begin (hs : IntervalNumbersAgree s) (idle : s.engine = .idle) (r : Requester) :
    IntervalNumbersAgree (s.begin r) := by
  rcases begin_cases s r with ⟨i, _, hf, hb⟩ | ⟨p, copy, m, _, _, _, hb⟩ | ⟨p, copy, _, _, _, hb⟩ | hb <;> rw [hb]
  · refine (intervalNumbers_folding rfl).2 fun ready => ?_
    obtain ⟨closed, opened, _⟩ := (intervalNumbers_foldWait hf).1 hs ready
    exact ⟨opened, FoldRun.begin i s.settings, rfl, rfl, nofun, closed⟩
  · exact intervalNumbers_of_same hs rfl rfl rfl rfl rfl (by simp [idle]) rfl
  · exact intervalNumbers_of_same hs rfl rfl rfl rfl rfl (by simp [idle]) rfl
  · exact hs

theorem intervalNumbers_grant (hs : IntervalNumbersAgree s) : IntervalNumbersAgree s.grant := by
  rcases grant_cases s with ⟨r, high, low, _, idle, _, hg⟩ | ⟨hg, _⟩ <;> rw [hg]
  · have granted : IntervalNumbersAgree
        { s with arbiter := { high := high, low := low, waiting := s.arbiter.waiting.set r.ix false } } :=
      intervalNumbers_of_same hs rfl rfl rfl rfl rfl (fun _ => .rfl) rfl
    exact intervalNumbers_begin granted idle r
  · exact hs

/-- An engine in a slot's operation runs no fold. -/
theorem not_fold_of_slot {p : Port} (h : s.engine.occupant = some (.slot p)) (run : FoldRun) :
    s.engine ≠ .fold run := by
  intro heq
  rw [heq] at h
  cases h

end Numbers

/-- The stages that precede each other inside a fold agree on whether F is stored. -/
theorem FoldStage.Precedes.stored_eq {a b : FoldStage} (h : a.Precedes b) : a.stored = b.stored := by
  cases h with
  | step e =>
    unfold FoldStage.afterStep
    split <;> rfl
  | markStale => rfl
  | handHits => rfl

/-- The bank that the fourth stage clears is the closed one (R32). -/
theorem closedBank_cleared (s : State) :
    (s.setBank s.activeBank.other Bank.zero).closedBank = Bank.zero := by
  rw [State.closedBank, State.setBank_activeBank, State.setBank_get, if_pos rfl]

/-- The volatile state of a READY part just entered meets R39. -/
theorem intervalNumbers_entered (s : State) : IntervalNumbersAgree s.rebuild.resetVolatile.sampled :=
  (intervalNumbers_idle rfl).2 fun _ => ⟨rfl, rfl, rfl, nofun⟩

theorem move_keeps_intervalNumbers {s t : State} (move : Move s t) (hs : IntervalNumbersAgree s) :
    IntervalNumbersAgree t := by
  cases move with
  | queue | links | plans | timer | supply | attention | settings | enable | define | amend | place | suspend | vacate
  | append | windows | hold => exact intervalNumbers_of_same hs rfl rfl rfl rfl rfl (fun _ => .rfl) rfl
  | watch m => exact intervalNumbers_of_same hs rfl rfl rfl rfl rfl (fun _ => Engine.watch_eq_fold_iff) rfl
  | bank m t =>
    refine intervalNumbers_of_same hs ?_ ?_ ?_ ?_ ?_ ?_ ?_ <;> simp [State.writeActive, State.closedBank]
    exact fun h => ((BankId.other_ne s.activeBank) h.symm).elim
  | foldStage run after engine interval stage =>
    by_cases ready : s.phase = .ready
    · obtain ⟨hf, opened, closed⟩ := folding_of_stage hs ready engine stage.ne_release.1
      refine (intervalNumbers_folding (s := { s with engine := .fold after }) hf).2 fun _ =>
        ⟨opened, after, rfl, interval, stage.ne_release.2, ?_⟩
      rw [← stage.stored_eq]
      exact closed
    · exact fun ready' => (ready ready').elim
  | storeFold run engine stage =>
    by_cases ready : s.phase = .ready
    · obtain ⟨hf, opened, _⟩ := folding_of_stage hs ready engine (by rw [stage]; nofun)
      exact (intervalNumbers_folding (s := storeFold run s) hf).2 fun _ => ⟨opened, _, rfl, rfl, nofun, rfl⟩
    · exact fun ready' => (ready ready').elim
  | clearBank run engine stage =>
    refine (intervalNumbers_idle rfl).2 fun ready => ?_
    have ready : s.phase = .ready := (State.setBank_phase ..).symm.trans ready
    obtain ⟨_, opened, closed⟩ := folding_of_stage hs ready engine (by rw [stage]; nofun)
    rw [stage] at closed
    have closed : run.interval = s.lastFolded := closed
    rw [closed] at opened
    refine ⟨by simpa using opened, rfl, (closedBank_of_same rfl rfl rfl).trans (closedBank_cleared s), fun run' h => ?_⟩
    cases h
    rfl
  | release run engine stage =>
    exact intervalNumbers_grant (intervalNumbers_released hs fun run' h => by cases engine.symm.trans h; exact stage)
  | swap idle =>
    refine intervalNumbers_grant ((intervalNumbers_foldWait rfl).2 fun ready => ?_)
    obtain ⟨opened, _, _, last⟩ := (intervalNumbers_idle idle).1 hs ready
    exact ⟨opened, rfl, last⟩
  | mark occupied =>
    cases hf : s.foldState with
    | idle => exact (occupied hf).elim
    | foldWait i => exact (intervalNumbers_foldWait rfl).2 ((intervalNumbers_foldWait hf).1 hs)
    | folding i => exact (intervalNumbers_folding rfl).2 ((intervalNumbers_folding hf).1 hs)
  | ask p copy empty =>
    exact intervalNumbers_grant (intervalNumbers_of_same hs rfl rfl rfl rfl rfl (fun _ => .rfl) rfl)
  | finish p c r n runs =>
    have released := intervalNumbers_released hs fun run h => (not_fold_of_slot runs run h).elim
    exact intervalNumbers_grant (intervalNumbers_of_same released rfl rfl rfl rfl rfl (fun _ => .rfl) rfl)
  | resetSlot p =>
    rcases resetSlot_cases s p with ⟨heq, _⟩ | ⟨heq, runs⟩ <;> rw [heq]
    · exact intervalNumbers_of_same hs rfl rfl rfl rfl rfl (fun _ => .rfl) rfl
    · have released := intervalNumbers_released hs fun run h => by
        rcases runs with h' | ⟨_, h'⟩ <;> cases h'.symm.trans h
      exact intervalNumbers_grant (intervalNumbers_of_same released rfl rfl rfl rfl rfl (fun _ => .rfl) rfl)
  | startUp => exact fun starting => (Phase.noConfusion starting : False).elim
  | enterReady => exact intervalNumbers_entered s.repair

/-- Settles O59: the swap closes the interval after F, the first stage makes it F, and the fourth opens IDLE on it. -/
theorem everyStepKeepsIntervalNumbers : Obligations.EveryStepKeepsIntervalNumbers :=
  fun _ _ => step_keeps move_keeps_intervalNumbers

end Sys2Proof.Machine

/-! # Proofs: triggers, the swap and the release of the engine (chapters 2 and 8) -/

namespace Sys2Proof.Machine

/-! ## The swap (R29, R33) -/

/-- The next interval number stays at the top of the range (R33). -/
theorem nextInterval_eq (i : Interval) :
    nextInterval i = if i = 4294967295#32 then 4294967295#32 else i + 1 := by
  have top : i.toNat = Config.maxWord ↔ i = 4294967295#32 :=
    ⟨fun h => BitVec.eq_of_toNat_eq h, fun h => by rw [h]; rfl⟩
  unfold nextInterval
  by_cases h : i = 4294967295#32
  · rw [if_pos (top.2 h), if_pos h, h]
  · rw [if_neg (mt top.1 h), if_neg h]

/-- The state of a swap before its grant: FOLD waits (R29). -/
def State.swapped (s : State) : State :=
  { s with
    activeBank := s.activeBank.other
    foldState := .foldWait s.openInterval
    openInterval := nextInterval s.openInterval
    timer := restartedTimer s.settings
    arbiter := s.arbiter.wait .fold }

theorem swap_eq (s : State) : s.swap = s.swapped.grant := rfl

theorem swap_occupied {s : State} (h : s.engine ≠ .idle) : s.swap = s.swapped := by
  rw [swap_eq, grant_occupied (s := s.swapped) h]

/-- An idle engine with nothing waiting goes to the fold at once (R157). -/
theorem swap_idle {s : State} (ready : s.phase = .ready) (idle : s.engine = .idle) (h : s.nothingWaits) :
    s.swap =
      { s.swapped with
        foldState := .folding s.openInterval
        arbiter :=
          { high := if s.settings.tiers[Requester.fold.ix] = .high then .requester .fold else .low
            low := if s.settings.tiers[Requester.fold.ix] = .high then s.arbiter.low else .fold
            waiting := s.arbiter.waiting }
        engine := .fold (FoldRun.begin s.openInterval s.settings) } := by
  have granted := startWaiting_alone (s := { s.swapped with arbiter := s.arbiter }) ready idle h .fold
  rw [begin_fold rfl] at granted
  exact granted

theorem swap_openInterval (s : State) : s.swap.openInterval = nextInterval s.openInterval := by
  rw [swap_eq, (State.grant_frame _).2.2.2.2.2.2.2.2.2.2.1]
  rfl

theorem BankId.other_eq (id : BankId) : id.other = match id with | .a => .b | .b => .a := by cases id <;> rfl

/-! ## Triggers (R30, R35) -/

/-- A trigger outside IDLE leaves the pending trigger set, whether it was or not (R30). -/
theorem trigger_outside_idle {s : State} (h : s.foldState ≠ .idle) :
    s.trigger = { s with pendingTrigger := true } := by
  rcases trigger_cases s with ⟨idle, _⟩ | ⟨_, _, _, ht⟩ | ⟨_, pending, _, ht⟩
  · exact (h idle).elim
  · exact ht
  · rw [ht, ← pending]

theorem trigger_in_idle {s : State} (h : s.foldState = .idle) : s.trigger = s.swap := by
  simp only [State.trigger, State.triggerEffect, h]

theorem expireInterval_in_idle {s : State} (h : s.foldState = .idle) : s.expireInterval = s.swap := by
  rcases expireInterval_cases s with ⟨_, he⟩ | ⟨occupied, _⟩
  · exact he
  · exact (occupied h).elim

theorem expireInterval_outside_idle {s : State} (h : s.foldState ≠ .idle) :
    s.expireInterval = { s with pendingTrigger := true, timer := .expired } := by
  rcases expireInterval_cases s with ⟨idle, _⟩ | ⟨_, he⟩
  · exact (h idle).elim
  · exact he

theorem exec_intervalTimerExpiry_running {s : State} {n : Nat} (h : s.timer = .running n) :
    exec .intervalTimerExpiry s = .next s.expireInterval := by
  change execIntervalTimerExpiry s = _
  simp only [execIntervalTimerExpiry, h]

/-- Settles O16: `swap_occupied` and `swap_idle` are the two engines, and the expiry is a trigger by fold state. -/
theorem swapClosesTheInterval : Obligations.SwapClosesTheInterval := by
  intro s opened swapped
  have opened_eq : opened = nextInterval s.openInterval := (nextInterval_eq _).symm
  have swapped_eq : swapped = s.swapped := by
    unfold State.swapped
    rw [BankId.other_eq, ← opened_eq]
    rfl
  refine ⟨fun occupied => ?_, fun ready idle none => ?_, fun n timer => ⟨fun idle => ?_, fun occupied => ?_⟩⟩
  · rw [swapped_eq, swap_occupied occupied]
  · rw [swapped_eq, swap_idle ready idle none]
    rfl
  · rw [exec_intervalTimerExpiry_running timer, expireInterval_in_idle idle]
  · rw [exec_intervalTimerExpiry_running timer, expireInterval_outside_idle occupied]

/-- What RECKON_NOW answers to a port that may trigger (R37). -/
theorem exec_reckonNow_allowed {s : State} {p : Port} (ready : s.phase = .ready)
    (allowed : s.settings.holds p .report = true ∨ s.settings.holds p .admin = true) :
    exec (.reckonNow p []) s = .next (s.trigger.answer p 0xA2#8 { status := .ok, body := reckonBody s }) := by
  have passes : (s.settings.holds p .report || s.settings.holds p .admin) = true := by simpa using allowed
  change takeRequest p .reckonNow (reckonNow p []) s = _
  rw [takeRequest_ready ready]
  simp only [reckonNow, passes, noArgs, Bool.true_eq_false, if_false]
  rfl

/-- Settles O15: the effect and the reply are those of the trigger by fold state and pending trigger. -/
theorem reckonNowHasOneOfThreeEffects : Obligations.ReckonNowHasOneOfThreeEffects := by
  intro s p ready
  refine ⟨fun allowed => ⟨fun idle => ?_, fun occupied notPending => ?_, fun occupied pending => ?_, fun b rest => ?_⟩,
    fun noReport noAdmin payload => ?_⟩
  · have effect : s.triggerEffect = .closed := by simp only [State.triggerEffect, idle]
    rw [exec_reckonNow_allowed ready allowed, trigger_in_idle idle, swap_openInterval]
    simp only [reckonBody, effect]
    rfl
  · rcases trigger_cases s with ⟨idle, _⟩ | ⟨_, _, effect, ht⟩ | ⟨_, pending, _⟩
    · exact (occupied idle).elim
    · rw [exec_reckonNow_allowed ready allowed, ht]
      simp only [reckonBody, effect]
      rfl
    · cases notPending.symm.trans pending
  · rcases trigger_cases s with ⟨idle, _⟩ | ⟨_, notPending, _⟩ | ⟨_, _, effect, ht⟩
    · exact (occupied idle).elim
    · cases notPending.symm.trans pending
    · rw [exec_reckonNow_allowed ready allowed, ht]
      simp only [reckonBody, effect]
      rfl
  · have passes : (s.settings.holds p .report || s.settings.holds p .admin) = true := by simpa using allowed
    change takeRequest p .reckonNow (reckonNow p (b :: rest)) s = _
    rw [takeRequest_ready ready]
    simp only [reckonNow, passes, noArgs, Bool.true_eq_false, if_false]
    rfl
  · change takeRequest p .reckonNow (reckonNow p payload) s = _
    rw [takeRequest_ready ready]
    simp only [reckonNow, noReport, noAdmin, Bool.or_self, if_true]
    rfl

/-! ## The supply-low input (R38, R185) -/

/-- Only a rising input outside start-up is an assertion (R185). -/
theorem execSupplyAssertion_rising {s : State} (ready : s.phase = .ready) (off : s.supply = .deasserted) :
    execSupplyAssertion s = .next { s with supplyPin := .asserted }.supplyAsserted := by
  unfold execSupplyAssertion
  split
  · rfl
  · next other => exact (other ready off).elim

theorem execSupplyAssertion_held {s : State} (h : s.phase = .ready → s.supply ≠ .deasserted) :
    execSupplyAssertion s = .next { s with supplyPin := .asserted } := by
  unfold execSupplyAssertion
  split
  · next ready off => exact (h ready off).elim
  · rfl

/-- Settles O53: an assertion in READY is `supplyAsserted`, whose trigger is by fold state. -/
theorem supplyEventsRaiseAndTrigger : Obligations.SupplyEventsRaiseAndTrigger := by
  intro s driven raised
  have foldState : raised.foldState = s.foldState := (raiseAt_frame ..).2.2.2.2.2.2.2.2.2.2.2.1
  have asserted (ready : s.phase = .ready) (off : s.supply = .deasserted) :
      exec .supplyAssertion s = .next driven.supplyAsserted := execSupplyAssertion_rising ready off
  refine ⟨fun ready off => ⟨fun freeze => ?_, fun fold => ⟨fun idle => ?_, fun occupied => ?_⟩⟩, fun ready on => ?_,
    fun starting => ⟨?_, ?_⟩, fun ready => ?_⟩
  · rw [asserted ready off]
    simp only [State.supplyAsserted, driven, freeze]
    rfl
  · have policy : driven.supplyAsserted = raised.trigger := by
      simp only [State.supplyAsserted, driven, fold]
      rfl
    rw [asserted ready off, policy, trigger_in_idle (foldState.trans idle)]
  · have policy : driven.supplyAsserted = raised.trigger := by
      simp only [State.supplyAsserted, driven, fold]
      rfl
    rw [asserted ready off, policy, trigger_outside_idle (by rwa [foldState])]
  · exact execSupplyAssertion_held fun _ off => nomatch on.symm.trans off
  · exact execSupplyAssertion_held fun ready => nomatch starting.symm.trans ready
  · change execSupplyDeassertion s = _
    unfold execSupplyDeassertion
    split
    · next ready => cases starting.symm.trans ready
    · rfl
  · change execSupplyDeassertion s = _
    unfold execSupplyDeassertion
    split
    · rfl
    · next starting => cases ready.symm.trans starting

/-! ## The last stages of completion (R32, R63) -/

/-- Settles O26: the swap that consumes the pending trigger finds the engine still with the fold. -/
theorem closedBankIsCleared : Obligations.ClosedBankIsCleared := by
  intro s run engine stage cleared
  have executed : exec .clearClosedBank s = .next (clearClosed run s) :=
    completionStage_in_turn engine stage clearClosed
  have cleared_eq : cleared = { s.setBank s.activeBank.other Bank.zero with
      foldState := .idle, pendingTrigger := false, engine := .fold { run with stage := .release } } := by
    cases hactive : s.activeBank <;> simp [cleared, State.setBank, BankId.other, hactive]
  refine ⟨fun notPending => ?_, fun pending => ?_⟩
  · rw [executed, cleared_eq, clearClosed, notPending]
    rfl
  · have swapped : clearClosed run s = cleared.swap := by
      rw [cleared_eq, clearClosed, pending]
      rfl
    have occupied : cleared.engine ≠ .idle := nofun
    rw [executed, swapped, swap_occupied occupied, State.swapped, BankId.other_eq]
    rfl

/-- Settles O27: the release is a grant from the idle engine, and the requester chosen begins. -/
theorem engineIsReleasedAndGranted : Obligations.EngineIsReleasedAndGranted := by
  intro s run ready engine stage
  have executed : exec .releaseEngine s = .next s.release :=
    completionStage_in_turn engine stage fun _ s => s.release
  have chosen {r : Requester} {high : HighPlace} {low : Requester}
      (h : s.arbiter.choose s.settings.tiers = some (r, high, low)) :=
    grant_chosen (s := { s with engine := .idle }) ready rfl h
  refine ⟨fun none => ?_, fun high low closed h waits => ?_, fun p high low copy h waits => ?_⟩
  · rw [executed, State.release, grant_none (s := { s with engine := .idle }) none]
  · rw [executed, State.release, chosen h, begin_fold (i := closed) (by exact waits)]
    rfl
  · rw [executed, State.release, chosen h, begin_slot (copy := copy) (by exact waits)]
    cases copy.request <;> rfl

end Sys2Proof.Machine

/-! # Proofs: history chains and appends (section 7.3) -/

namespace Sys2Proof.Machine

/-! ## Chains as lists -/

/-- A list of blocks that NEXT entries join and a LAST entry ends (R131). -/
def Linked (alloc : Vector AllocEntry 256) (l : List BlockIx) : Prop :=
  l.IsChain (fun a b => alloc[a] = .next b) ∧ ∃ tail top, l.getLast? = some tail ∧ alloc[tail] = .last top

section Linked

variable {alloc alloc' : Vector AllocEntry 256} {l : List BlockIx} {b c tail : BlockIx}

theorem Linked.ne_nil (h : Linked alloc l) : l ≠ [] := by
  rintro rfl
  obtain ⟨_, _, _, last, _⟩ := h
  cases last

theorem linked_concat_iff {init : List BlockIx} :
    Linked alloc (init ++ [tail]) ↔
      (init ++ [tail]).IsChain (fun a b => alloc[a] = .next b) ∧ ∃ top, alloc[tail] = .last top := by
  simp [Linked]

theorem linked_singleton : Linked alloc [b] ↔ ∃ top, alloc[b] = .last top := by
  simp [Linked]

theorem linked_cons_cons : Linked alloc (b :: c :: l) ↔ alloc[b] = .next c ∧ Linked alloc (c :: l) := by
  simp only [Linked, List.isChain_cons_cons, List.getLast?_cons_cons, and_assoc]

theorem Linked.exists_concat (h : Linked alloc l) : ∃ init tail top, l = init ++ [tail] ∧ alloc[tail] = .last top := by
  obtain ⟨_, tail, top, last, entry⟩ := h
  obtain ⟨init, rfl⟩ := List.getLast?_eq_some_iff.1 last
  exact ⟨init, tail, top, rfl, entry⟩

theorem Linked.congr (h : Linked alloc l) (same : ∀ b ∈ l, alloc'[b] = alloc[b]) : Linked alloc' l := by
  obtain ⟨chain, tail, top, last, entry⟩ := h
  refine ⟨chain.imp_of_mem_imp fun a _ ha _ step => (same a ha).trans step, tail, top, last, ?_⟩
  exact (same tail (List.mem_of_getLast? last)).trans entry

/-- A block of a chain holds a NEXT or a LAST entry. -/
theorem Linked.not_free (h : Linked alloc l) (hb : b ∈ l) : alloc[b] ≠ .free := by
  induction l with
  | nil => cases hb
  | cons a rest ih =>
    cases rest with
    | nil =>
      obtain ⟨top, entry⟩ := linked_singleton.1 h
      rw [List.mem_singleton.1 hb, entry]
      exact nofun
    | cons c rest =>
      obtain ⟨entry, linked⟩ := linked_cons_cons.1 h
      rcases List.mem_cons.1 hb with rfl | hb
      · rw [entry]
        exact nofun
      · exact ih linked hb

/-- The entries of a chain's blocks decide how it goes on. -/
theorem Linked.unique {rest rest' : List BlockIx} (h : Linked alloc (b :: rest)) (h' : Linked alloc (b :: rest')) :
    rest = rest' := by
  induction rest generalizing b rest' with
  | nil =>
    obtain ⟨top, entry⟩ := linked_singleton.1 h
    cases rest' with
    | nil => rfl
    | cons c rest' => cases entry.symm.trans (linked_cons_cons.1 h').1
  | cons c rest ih =>
    obtain ⟨entry, linked⟩ := linked_cons_cons.1 h
    cases rest' with
    | nil =>
      obtain ⟨top, last⟩ := linked_singleton.1 h'
      cases entry.symm.trans last
    | cons c' rest' =>
      obtain ⟨entry', linked'⟩ := linked_cons_cons.1 h'
      cases entry.symm.trans entry'
      rw [ih linked linked']

theorem Linked.of_append {l' : List BlockIx} (h : Linked alloc (l ++ l')) (ne : l' ≠ []) : Linked alloc l' := by
  obtain ⟨chain, tail, top, last, entry⟩ := h
  refine ⟨chain.right_of_append, tail, top, ?_, entry⟩
  rwa [List.getLast?_append_of_ne_nil _ ne] at last

/-- No block stands twice in a chain: behind its second place the chain would go on as behind its first. -/
theorem Linked.nodup (h : Linked alloc l) : l.Nodup := by
  induction l with
  | nil => exact .nil
  | cons a rest ih =>
    cases rest with
    | nil => exact List.nodup_singleton a
    | cons c rest =>
      refine List.nodup_cons.2 ⟨fun again => ?_, ih (linked_cons_cons.1 h).2⟩
      obtain ⟨front, back, split⟩ := List.append_of_mem again
      rw [split] at h
      have second : Linked alloc (a :: back) := Linked.of_append (l := a :: front) h nofun
      have lengths := congrArg List.length (h.unique second)
      simp at lengths
      omega

theorem Linked.last_not_mem (h : Linked alloc (l ++ [tail])) : tail ∉ l := fun again =>
  List.disjoint_of_nodup_append h.nodup again (List.mem_singleton_self tail)

/-- The walk along NEXT entries finds a chain of at most `fuel` blocks whole (R131). -/
theorem chainFrom_of_linked {fuel : Nat} {rest : List BlockIx} (h : Linked alloc (b :: rest))
    (short : (b :: rest).length ≤ fuel) : chainFrom alloc fuel b = b :: rest := by
  induction fuel generalizing b rest with
  | zero => simp at short
  | succ fuel ih =>
    cases rest with
    | nil =>
      obtain ⟨top, entry⟩ := linked_singleton.1 h
      simp only [chainFrom, entry]
    | cons c rest =>
      obtain ⟨entry, linked⟩ := linked_cons_cons.1 h
      simp only [chainFrom, entry]
      rw [ih linked (by simpa using short)]

theorem chainFrom_length (fuel : Nat) : (chainFrom alloc fuel b).length ≤ fuel := by
  induction fuel generalizing b with
  | zero => rfl
  | succ fuel ih =>
    unfold chainFrom
    split
    · exact Nat.zero_le _
    · exact Nat.succ_le_succ (Nat.zero_le _)
    · exact Nat.succ_le_succ ih

/-- A walk that ends at a LAST entry walked a whole chain. -/
theorem linked_chainFrom {fuel : Nat} {top : RecordSlot} (last : (chainFrom alloc fuel b).getLast? = some tail)
    (entry : alloc[tail] = .last top) :
    ∃ rest, chainFrom alloc fuel b = b :: rest ∧ Linked alloc (b :: rest) := by
  induction fuel generalizing b with
  | zero => cases last
  | succ fuel ih =>
    unfold chainFrom at last ⊢
    split at last
    · cases last
    · next own => exact ⟨[], rfl, linked_singleton.2 ⟨_, own⟩⟩
    · next n own =>
      cases walk : chainFrom alloc fuel n with
      | nil =>
        rw [walk] at last
        cases last
        cases own.symm.trans entry
      | cons c rest =>
        rw [walk, List.getLast?_cons_cons, ← walk] at last
        obtain ⟨rest', walk', linked⟩ := ih last
        rw [walk'] at walk
        cases walk
        exact ⟨n :: rest, rfl, linked_cons_cons.2 ⟨own, linked⟩⟩

theorem endsInLast_iff : EndsInLast alloc b ↔
    ∃ rest, Linked alloc (b :: rest) ∧ (b :: rest).length ≤ 4 ∧ chainOf alloc (some b) = b :: rest := by
  constructor
  · rintro ⟨tail, top, last, entry⟩
    obtain ⟨rest, walk, linked⟩ := linked_chainFrom last entry
    exact ⟨rest, linked, walk ▸ chainFrom_length (alloc := alloc) 4, walk⟩
  · rintro ⟨rest, ⟨_, tail, top, last, entry⟩, _, walk⟩
    exact ⟨tail, top, by rw [walk, last], entry⟩

end Linked

/-! ## The store's chains (R131) -/

/-- Every record's chain is the list given for it: disjoint lists of at most four joined blocks that hold every block
that is not FREE (R131). -/
structure OwnsChains (elements : Vector Element 512) (alloc : Vector AllocEntry 256)
    (chains : ElementIx → List BlockIx) : Prop where
  head : ∀ e : ElementIx, elements[e].head = (chains e).head?
  linked : ∀ e, chains e ≠ [] → Linked alloc (chains e)
  short : ∀ e, (chains e).length ≤ 4
  vacant : ∀ e : ElementIx, elements[e].state = .vacant → chains e = []
  owned : ∀ b : BlockIx, alloc[b] ≠ .free → ∃ e, b ∈ chains e
  disjoint : ∀ e f b, b ∈ chains e → b ∈ chains f → e = f

section OwnsChains

variable {elements elements' : Vector Element 512} {alloc alloc' : Vector AllocEntry 256}
  {chains : ElementIx → List BlockIx}

theorem OwnsChains.chainOf (h : OwnsChains elements alloc chains) (e : ElementIx) :
    Machine.chainOf alloc elements[e].head = chains e := by
  rw [h.head e]
  cases hc : chains e with
  | nil => rfl
  | cons b rest =>
    have linked := h.linked e
    have short := h.short e
    rw [hc] at linked short
    exact chainFrom_of_linked (linked nofun) short

theorem OwnsChains.meets (h : OwnsChains elements alloc chains) : ChainsMeetR131 elements alloc where
  vacant e vacant := by rw [h.head e, h.vacant e vacant]; rfl
  ends e b head := by
    have chain := h.chainOf e
    rw [head] at chain
    have own : (chains e).head? = some b := (h.head e).symm.trans head
    obtain ⟨rest, hc⟩ := List.head?_eq_some_iff.1 own
    have linked := h.linked e
    have short := h.short e
    rw [hc] at linked short chain
    exact endsInLast_iff.2 ⟨rest, linked nofun, short, chain⟩
  owned b used := by
    obtain ⟨e, he⟩ := h.owned b used
    exact ⟨e, (h.chainOf e).symm ▸ he⟩
  disjoint e f b := by
    rw [h.chainOf e, h.chainOf f]
    exact h.disjoint e f b

theorem ChainsMeetR131.owns (h : ChainsMeetR131 elements alloc) :
    OwnsChains elements alloc fun e => chainOf alloc elements[e].head := by
  have chain (e : ElementIx) : elements[e].head = none ∧ chainOf alloc elements[e].head = [] ∨
      ∃ b rest, elements[e].head = some b ∧ Linked alloc (b :: rest) ∧ (b :: rest).length ≤ 4 ∧
        chainOf alloc elements[e].head = b :: rest := by
    cases head : elements[e].head with
    | none => exact .inl ⟨rfl, rfl⟩
    | some b =>
      obtain ⟨rest, linked, short, walk⟩ := endsInLast_iff.1 (h.ends e b head)
      exact .inr ⟨b, rest, rfl, linked, short, walk⟩
  exact {
    head := fun e => by
      rcases chain e with ⟨head, walk⟩ | ⟨b, rest, head, _, _, walk⟩ <;> simp only [walk] <;> exact head
    linked := fun e ne => by
      rcases chain e with ⟨_, walk⟩ | ⟨b, rest, _, linked, _, walk⟩
      · exact (ne walk).elim
      · simpa only [walk] using linked
    short := fun e => by
      rcases chain e with ⟨_, walk⟩ | ⟨b, rest, _, _, short, walk⟩
      · simp only [walk, List.length_nil, Nat.zero_le]
      · simpa only [walk] using short
    vacant := fun e vacant => by
      simp only [h.vacant e vacant]
      rfl
    owned := h.owned
    disjoint := h.disjoint }

/-- Records that keep their heads and their vacancy keep their chains. -/
theorem OwnsChains.of_records (h : OwnsChains elements alloc chains)
    (head : ∀ e : ElementIx, elements'[e].head = elements[e].head)
    (vacant : ∀ e : ElementIx, elements'[e].state = .vacant → elements[e].head = none) :
    OwnsChains elements' alloc chains where
  head e := (head e).trans (h.head e)
  linked := h.linked
  short := h.short
  vacant e state := List.head?_eq_none_iff.1 ((h.head e).symm.trans (vacant e state))
  owned := h.owned
  disjoint := h.disjoint

/-- One element's chain replaced by another list, of its own and of FREE blocks, whose other blocks become FREE. -/
theorem OwnsChains.replace (h : OwnsChains elements alloc chains) {e : ElementIx} {r : Element} {l : List BlockIx}
    (head : r.head = l.head?) (linked : l ≠ [] → Linked alloc' l) (short : l.length ≤ 4)
    (vacant : r.state = .vacant → l = []) (source : ∀ b ∈ l, b ∈ chains e ∨ alloc[b] = .free)
    (freed : ∀ b ∈ chains e, b ∉ l → alloc'[b] = .free)
    (same : ∀ b : BlockIx, b ∉ chains e → b ∉ l → alloc'[b] = alloc[b]) :
    OwnsChains (elements.set e r) alloc' (Function.update chains e l) := by
  have apart (f : ElementIx) (other : f ≠ e) (b : BlockIx) (hb : b ∈ chains f) : b ∉ chains e ∧ b ∉ l := by
    have notOwn : b ∉ chains e := fun hbe => other (h.disjoint f e b hb hbe)
    refine ⟨notOwn, fun hbl => ?_⟩
    rcases source b hbl with own | free
    · exact notOwn own
    · exact (h.linked f (List.ne_nil_of_mem hb)).not_free hb free
  constructor
  · intro f
    rw [get_set]
    by_cases hf : f = e
    · subst hf
      rw [if_pos rfl, Function.update_self, head]
    · rw [if_neg (Ne.symm hf), Function.update_of_ne hf, h.head]
  · intro f
    by_cases hf : f = e
    · subst hf
      rw [Function.update_self]
      exact linked
    · rw [Function.update_of_ne hf]
      exact fun ne => (h.linked f ne).congr fun b hb => same b (apart f hf b hb).1 (apart f hf b hb).2
  · intro f
    by_cases hf : f = e
    · subst hf
      rwa [Function.update_self]
    · rw [Function.update_of_ne hf]
      exact h.short f
  · intro f
    rw [get_set]
    by_cases hf : f = e
    · subst hf
      rw [if_pos rfl, Function.update_self]
      exact vacant
    · rw [if_neg (Ne.symm hf), Function.update_of_ne hf]
      exact h.vacant f
  · intro b used
    by_cases hbl : b ∈ l
    · exact ⟨e, by rwa [Function.update_self]⟩
    · have notOwn : b ∉ chains e := fun own => used (freed b own hbl)
      obtain ⟨f, hf⟩ := h.owned b (by rwa [← same b notOwn hbl])
      have other : f ≠ e := fun eq => notOwn (eq ▸ hf)
      exact ⟨f, by rwa [Function.update_of_ne other]⟩
  · intro f g b
    by_cases hf : f = e <;> by_cases hg : g = e
    · exact fun _ _ => hf.trans hg.symm
    · rw [hf, Function.update_self, Function.update_of_ne hg]
      exact fun hbl hbg => ((apart g hg b hbg).2 hbl).elim
    · rw [hg, Function.update_self, Function.update_of_ne hf]
      exact fun hbf hbl => ((apart f hf b hbf).2 hbl).elim
    · rw [Function.update_of_ne hf, Function.update_of_ne hg]
      exact h.disjoint f g b

end OwnsChains

/-! ## The forms of an append (Table 7-8) -/

/-- What an append does to the pool and to the chain `l` it goes to: the chain is opened, its LAST block filled, a
block added, or its first block recycled; or the record is dropped (R134 to R137). -/
inductive Appends (pool : HistoryPool) (h : HistoryRecord) :
    List BlockIx → Option (HistoryPool × List BlockIx) → Prop where
  | opened (b : BlockIx) (free : pool.alloc[b] = .free) : Appends pool h [] (some (pool.openBlock b h, [b]))
  | filled (init : List BlockIx) (tail : BlockIx) (top slot : RecordSlot) (last : pool.alloc[tail] = .last top)
      (next : slot.val = top.val + 1) :
      Appends pool h (init ++ [tail]) (some (pool.fillSlot tail slot h, init ++ [tail]))
  | grown (init : List BlockIx) (tail b : BlockIx) (full : pool.alloc[tail] = .last 5) (free : pool.alloc[b] = .free)
      (short : init.length < 3) :
      Appends pool h (init ++ [tail]) (some ((pool.link tail b).openBlock b h, init ++ [tail] ++ [b]))
  | recycled (first : BlockIx) (mid : List BlockIx) (tail : BlockIx) (full : pool.alloc[tail] = .last 5)
      (reason : mid.length = 2 ∨ ∀ b : BlockIx, pool.alloc[b] ≠ .free) :
      Appends pool h (first :: (mid ++ [tail]))
        (some ((pool.link tail first).openBlock first h, mid ++ [tail] ++ [first]))
  | dropped (l : List BlockIx) (noFree : ∀ b : BlockIx, pool.alloc[b] ≠ .free)
      (short : l = [] ∨ ∃ tail, l = [tail] ∧ pool.alloc[tail] = .last 5) : Appends pool h l none

theorem lowestFree_eq_none_iff {alloc : Vector AllocEntry 256} :
    lowestFree alloc = none ↔ ∀ b : BlockIx, alloc[b] ≠ .free := by
  simp [lowestFree]

theorem lowestFree_some {alloc : Vector AllocEntry 256} {b : BlockIx} (h : lowestFree alloc = some b) :
    alloc[b] = .free := by
  simpa using List.find?_some h

/-- Recycling takes the first of two blocks or more, and drops the record otherwise (R136, R137). -/
theorem recycle_appends {pool : HistoryPool} {init : List BlockIx} {tail : BlockIx} {h : HistoryRecord}
    (full : pool.alloc[tail] = .last 5)
    (reason : init.length = 3 ∨ ∀ b : BlockIx, pool.alloc[b] ≠ .free) :
    ∃ r, Appends pool h (init ++ [tail]) r ∧
      recycle pool tail h (init ++ [tail]) = r.map fun x => (x.1, x.2.head?) := by
  cases init with
  | nil =>
    rcases reason with three | noFree
    · cases three
    · exact ⟨none, .dropped _ noFree (.inr ⟨tail, rfl, full⟩), rfl⟩
  | cons first mid =>
    refine ⟨_, .recycled first mid tail full (reason.imp_left fun three => Nat.succ.inj three), ?_⟩
    cases mid <;> rfl

/-- An append takes one of the forms of Table 7-8, on any chain of at most four blocks. -/
theorem append_appends {pool : HistoryPool} {head : Option BlockIx} {l : List BlockIx} (h : HistoryRecord)
    (chain : chainOf pool.alloc head = l) (own : head = l.head?) (linked : l ≠ [] → Linked pool.alloc l)
    (short : l.length ≤ 4) :
    ∃ r, Appends pool h l r ∧ append pool head h = r.map fun x => (x.1, x.2.head?) := by
  unfold append
  rw [chain]
  by_cases empty : l = []
  · subst empty
    cases free : lowestFree pool.alloc with
    | none => exact ⟨none, .dropped _ (lowestFree_eq_none_iff.1 free) (.inl rfl), rfl⟩
    | some b => exact ⟨_, .opened b (lowestFree_some free), rfl⟩
  · obtain ⟨init, tail, top, rfl, last⟩ := (linked empty).exists_concat
    have length : (init ++ [tail]).length = init.length + 1 := by simp
    simp only [List.getLast?_concat, last]
    by_cases room : top.val < 5
    · simp only [dif_pos room]
      exact ⟨_, .filled init tail top ⟨top.val + 1, by omega⟩ last rfl, by rw [own]; rfl⟩
    · have full : pool.alloc[tail] = .last 5 := by
        rw [last, show top = 5 from Fin.ext (by have := top.isLt; omega)]
      simp only [dif_neg room]
      by_cases room' : (init ++ [tail]).length < Config.maxChainBlocks
      · rw [if_pos room']
        cases free : lowestFree pool.alloc with
        | none => exact recycle_appends full (.inr (lowestFree_eq_none_iff.1 free))
        | some b =>
          refine ⟨_, .grown init tail b full (lowestFree_some free)
            (by rw [length] at room'; exact Nat.lt_of_succ_lt_succ room'), ?_⟩
          rw [own]
          cases init <;> rfl
      · rw [if_neg room']
        refine recycle_appends full (.inl ?_)
        have : Config.maxChainBlocks = 4 := rfl
        omega

/-! ## What an append leaves (R134 to R136) -/

section Pool

variable {pool : HistoryPool} {l mid : List BlockIx} {first b tail : BlockIx} {h : HistoryRecord}

theorem openBlock_alloc (x : BlockIx) :
    (pool.openBlock b h).alloc[x] = if b = x then .last 0 else pool.alloc[x] := get_set ..

theorem fillSlot_alloc (slot : RecordSlot) (x : BlockIx) :
    (pool.fillSlot b slot h).alloc[x] = if b = x then .last slot else pool.alloc[x] := get_set ..

theorem link_alloc (x : BlockIx) : (pool.link tail b).alloc[x] = if tail = x then .next b else pool.alloc[x] :=
  get_set ..

/-- A chain goes on behind its last block when that block's entry becomes NEXT of a block with a LAST entry. -/
theorem linked_extend {alloc alloc' : Vector AllocEntry 256} {top : RecordSlot}
    (chain : (l ++ [tail]).IsChain fun a b => alloc[a] = .next b) (same : ∀ x ∈ l, alloc'[x] = alloc[x])
    (joined : alloc'[tail] = .next b) (last : alloc'[b] = .last top) : Linked alloc' (l ++ [tail] ++ [b]) := by
  obtain ⟨front, _, bridge⟩ := List.isChain_append.1 chain
  refine linked_concat_iff.2 ⟨List.isChain_append.2 ⟨List.isChain_append.2 ⟨?_, .singleton _, ?_⟩, .singleton _, ?_⟩,
    top, last⟩
  · exact front.imp_of_mem_imp fun x _ hx _ step => (same x hx).trans step
  · exact fun x hx y hy => (same x (List.mem_of_getLast? hx)).trans (bridge x hx y hy)
  · intro x hx y hy
    rw [List.getLast?_concat] at hx
    cases hx
    cases hy
    exact joined

/-- After an append to a chain, the chain and the FREE blocks are as R131 wants them. -/
theorem OwnsChains.append {elements : Vector Element 512} {chains : ElementIx → List BlockIx} {e : ElementIx}
    {pool' : HistoryPool} {r : Element} (owns : OwnsChains elements pool.alloc chains)
    (appends : Appends pool h (chains e) (some (pool', l))) (head : r.head = l.head?) (defined : r.state ≠ .vacant) :
    OwnsChains (elements.set e r) pool'.alloc (Function.update chains e l) := by
  have linked := owns.linked e
  have short := owns.short e
  generalize hl : chains e = before at appends linked short
  have replaced := owns.replace (e := e) (r := r) (l := l) (alloc' := pool'.alloc) head
  rw [hl] at replaced
  cases appends with
  | opened b free =>
    refine replaced (fun _ => ?_) (by simp) (fun vacant => (defined vacant).elim) ?_ nofun fun x _ hx => ?_
    · exact linked_singleton.2 ⟨0, by rw [openBlock_alloc, if_pos rfl]⟩
    · intro x hx
      rw [List.mem_singleton.1 hx]
      exact .inr free
    · rw [openBlock_alloc, if_neg fun eq => hx (List.mem_singleton.2 eq.symm)]
  | filled init tail top slot last next =>
    have chain := linked_concat_iff.1 (linked (by simp))
    have notInit : tail ∉ init := (linked (by simp)).last_not_mem
    refine replaced (fun _ => ?_) short (fun vacant => (defined vacant).elim) (fun x hx => .inl hx)
      (fun x hx hx' => (hx' hx).elim) fun x _ hx => ?_
    · refine linked_concat_iff.2 ⟨?_, slot, by rw [fillSlot_alloc, if_pos rfl]⟩
      obtain ⟨front, _, bridge⟩ := List.isChain_append.1 chain.1
      have same (x : BlockIx) (hx : x ∈ init) : (pool.fillSlot tail slot h).alloc[x] = pool.alloc[x] := by
        rw [fillSlot_alloc, if_neg (ne_of_mem_of_not_mem hx notInit).symm]
      exact List.isChain_append.2 ⟨front.imp_of_mem_imp fun x _ hx _ step => (same x hx).trans step, .singleton _,
        fun x hx y hy => (same x (List.mem_of_getLast? hx)).trans (bridge x hx y hy)⟩
    · rw [fillSlot_alloc, if_neg fun eq => hx (by simp [eq])]
  | grown init tail b full free room =>
    have chain := linked_concat_iff.1 (linked (by simp))
    have notInit : tail ∉ init := (linked (by simp)).last_not_mem
    have notOwn (x : BlockIx) (hx : x ∈ init ++ [tail]) : b ≠ x := fun eq =>
      (linked (by simp)).not_free hx (eq ▸ free)
    refine replaced (fun _ => ?_) ?_ (fun vacant => (defined vacant).elim) ?_ ?_ fun x hx hx' => ?_
    · refine linked_extend (top := 0) chain.1 (fun x hx => ?_) ?_ ?_
      · rw [openBlock_alloc, if_neg (notOwn x (by simp [hx])), link_alloc,
          if_neg (ne_of_mem_of_not_mem hx notInit).symm]
      · rw [openBlock_alloc, if_neg (notOwn tail (by simp)), link_alloc, if_pos rfl]
      · rw [openBlock_alloc, if_pos rfl]
    · simp
      omega
    · intro x hx
      rcases List.mem_append.1 hx with hx | hx
      · exact .inl hx
      · rw [List.mem_singleton.1 hx]
        exact .inr free
    · exact fun x hx hx' => (hx' (List.mem_append_left _ hx)).elim
    · rw [openBlock_alloc, if_neg fun eq => hx' (by simp [eq]), link_alloc, if_neg fun eq => hx (by simp [eq])]
  | recycled first mid tail full reason =>
    have whole := linked nofun
    have rest : Linked pool.alloc (mid ++ [tail]) := Linked.of_append (l := [first]) whole (by simp)
    have chain := linked_concat_iff.1 rest
    have notFirst (x : BlockIx) (hx : x ∈ mid ++ [tail]) : first ≠ x := fun eq =>
      (List.nodup_cons.1 whole.nodup).1 (eq ▸ hx)
    have notMid : tail ∉ mid := rest.last_not_mem
    refine replaced (fun _ => ?_) ?_ (fun vacant => (defined vacant).elim) ?_ ?_ fun x hx hx' => ?_
    · refine linked_extend (top := 0) chain.1 (fun x hx => ?_) ?_ ?_
      · rw [openBlock_alloc, if_neg (notFirst x (by simp [hx])), link_alloc,
          if_neg (ne_of_mem_of_not_mem hx notMid).symm]
      · rw [openBlock_alloc, if_neg (notFirst tail (by simp)), link_alloc, if_pos rfl]
      · rw [openBlock_alloc, if_pos rfl]
    · have := short
      simp at this ⊢
      omega
    · intro x hx
      refine .inl ?_
      simp at hx ⊢
      tauto
    · intro x hx hx'
      simp at hx hx'
      tauto
    · rw [openBlock_alloc, if_neg fun eq => hx' (by simp [eq]), link_alloc, if_neg fun eq => hx (by simp [eq])]

/-! ## The records of a chain (R133) -/

theorem blockRecords_congr {pool' : HistoryPool} (alloc : pool'.alloc[b] = pool.alloc[b])
    (blocks : pool'.blocks[b] = pool.blocks[b]) : blockRecords pool' b = blockRecords pool b := by
  simp only [blockRecords, alloc, blocks]

/-- A block whose six slots all hold records has the entry LAST(6) or NEXT (R131). -/
theorem blockRecords_whole (h : pool.alloc[b] = .last 5 ∨ ∃ n, pool.alloc[b] = .next n) :
    blockRecords pool b = pool.blocks[b].toList := by
  rcases h with full | ⟨n, next⟩
  · simp only [blockRecords, full]
    exact List.take_of_length_le (by simp)
  · simp only [blockRecords, next]

theorem blockRecords_openBlock : blockRecords (pool.openBlock b h) b = [h] := by
  have entry : (pool.openBlock b h).alloc[b] = .last 0 := by rw [openBlock_alloc, if_pos rfl]
  have block : (pool.openBlock b h).blocks[b] = pool.blocks[b].set 0 h := get_set_same ..
  have first : ((pool.blocks[b].set 0 h).toList).take 1 = [h] := by
    rw [List.take_one, List.head?_eq_getElem?]
    simp
  simp only [blockRecords, entry, block]
  exact first

theorem blockRecords_fillSlot {top slot : RecordSlot} (last : pool.alloc[b] = .last top)
    (next : slot.val = top.val + 1) : blockRecords (pool.fillSlot b slot h) b = blockRecords pool b ++ [h] := by
  have entry : (pool.fillSlot b slot h).alloc[b] = .last slot := by rw [fillSlot_alloc, if_pos rfl]
  have block : (pool.fillSlot b slot h).blocks[b] = pool.blocks[b].set slot h := get_set_same ..
  have room : slot.val < pool.blocks[b].toList.length := by simp
  simp only [blockRecords, entry, block, last, Vector.toList_set]
  rw [List.take_set, List.take_add_one, next, List.getElem?_eq_getElem (next ▸ room)]
  simp

/-- The records of a list of blocks, one block's after the other's. -/
def listRecords (pool : HistoryPool) (l : List BlockIx) : List HistoryRecord := l.flatMap (blockRecords pool)

theorem listRecords_append {l' : List BlockIx} :
    listRecords pool (l ++ l') = listRecords pool l ++ listRecords pool l' := List.flatMap_append

theorem listRecords_cons : listRecords pool (b :: l) = blockRecords pool b ++ listRecords pool l := List.flatMap_cons

theorem listRecords_singleton : listRecords pool [b] = blockRecords pool b := List.flatMap_singleton ..

theorem listRecords_congr {pool' : HistoryPool}
    (same : ∀ x ∈ l, pool'.alloc[x] = pool.alloc[x] ∧ pool'.blocks[x] = pool.blocks[x]) :
    listRecords pool' l = listRecords pool l :=
  List.flatMap_congr fun x hx => blockRecords_congr (same x hx).1 (same x hx).2

/-- Every block before a chain's last is full. -/
theorem blockRecords_of_init (chain : (l ++ [tail]).IsChain fun a b => pool.alloc[a] = .next b) (hb : b ∈ l) :
    blockRecords pool b = pool.blocks[b].toList := by
  obtain ⟨front, back, rfl⟩ := List.append_of_mem hb
  rw [List.append_assoc] at chain
  have behind := chain.right_of_append
  refine blockRecords_whole (.inr ?_)
  cases back with
  | nil => exact ⟨tail, (List.isChain_cons_cons.1 behind).1⟩
  | cons c back => exact ⟨c, (List.isChain_cons_cons.1 behind).1⟩

theorem listRecords_length_init (chain : (l ++ [tail]).IsChain fun a b => pool.alloc[a] = .next b) :
    (listRecords pool l).length = 6 * l.length := by
  have six (x : BlockIx) (hx : x ∈ l) : (blockRecords pool x).length = 6 := by
    rw [blockRecords_of_init chain hx, Vector.length_toList]
  rw [listRecords, List.length_flatMap, List.map_congr_left six, List.map_const', List.sum_replicate_nat, Nat.mul_comm]

/-- A chain is full when its LAST block is LAST(6). -/
theorem listRecords_full_iff {top : RecordSlot} (chain : (l ++ [tail]).IsChain fun a b => pool.alloc[a] = .next b)
    (last : pool.alloc[tail] = .last top) :
    (listRecords pool (l ++ [tail])).length = 6 * (l ++ [tail]).length ↔ top = 5 := by
  have block : (blockRecords pool tail).length = top.val + 1 := by
    simp only [blockRecords, last, List.length_take, Vector.length_toList]
    omega
  rw [listRecords_append, listRecords_singleton, List.length_append, List.length_append, block,
    listRecords_length_init chain]
  simp only [List.length_singleton, Fin.ext_iff]
  omega

/-- A chain whose LAST(6) becomes NEXT of another block keeps its records. -/
theorem listRecords_moved (notOwn : ∀ x ∈ l ++ [tail], b ≠ x) (notInit : tail ∉ l) (full : pool.alloc[tail] = .last 5) :
    listRecords ((pool.link tail b).openBlock b h) (l ++ [tail]) = listRecords pool (l ++ [tail]) := by
  have blocks (x : BlockIx) (hx : x ∈ l ++ [tail]) :
      ((pool.link tail b).openBlock b h).blocks[x] = pool.blocks[x] := get_set_other _ _ (notOwn x hx)
  have joined : ((pool.link tail b).openBlock b h).alloc[tail] = .next b := by
    rw [openBlock_alloc, if_neg (notOwn tail (by simp)), link_alloc, if_pos rfl]
  have front : listRecords ((pool.link tail b).openBlock b h) l = listRecords pool l :=
    listRecords_congr fun x hx => by
      rw [openBlock_alloc, if_neg (notOwn x (by simp [hx])), link_alloc,
        if_neg (ne_of_mem_of_not_mem hx notInit).symm]
      exact ⟨rfl, blocks x (by simp [hx])⟩
  rw [listRecords_append, listRecords_append, listRecords_singleton, listRecords_singleton, front,
    blockRecords_whole (.inr ⟨b, joined⟩), blockRecords_whole (.inl full), blocks tail (by simp)]

/-! ## What an append does to the records of its chain -/

/-- The record is dropped exactly when no block is FREE and a full chain has no block to give (R137). -/
theorem Appends.eq_none_iff {r : Option (HistoryPool × List BlockIx)} (appends : Appends pool h l r)
    (linked : l ≠ [] → Linked pool.alloc l) :
    r = none ↔ (∀ b : BlockIx, pool.alloc[b] ≠ .free) ∧ (listRecords pool l).length = 6 * l.length ∧ l.length ≤ 1 := by
  cases appends with
  | opened b free => exact iff_of_false nofun fun ⟨noFree, _⟩ => noFree b free
  | filled init tail top slot last next =>
    refine iff_of_false nofun fun ⟨_, full, _⟩ => ?_
    have top_eq := (listRecords_full_iff (linked_concat_iff.1 (linked (by simp))).1 last).1 full
    rw [top_eq] at next
    have := slot.isLt
    simp at next
    omega
  | grown init tail b _ free => exact iff_of_false nofun fun ⟨noFree, _⟩ => noFree b free
  | recycled first mid tail => exact iff_of_false nofun fun ⟨_, _, short⟩ => by simp at short
  | dropped _ noFree short =>
    refine iff_of_true rfl ⟨noFree, ?_⟩
    rcases short with rfl | ⟨tail, rfl, full⟩
    · exact ⟨rfl, Nat.zero_le _⟩
    · exact ⟨(listRecords_full_iff (l := []) (.singleton _) full).2 rfl, le_rfl⟩

/-- An append touches no block of another chain. -/
theorem Appends.other_blocks {pool' : HistoryPool} {l' : List BlockIx} (appends : Appends pool h l (some (pool', l')))
    {x : BlockIx} (notOwn : x ∉ l) (used : pool.alloc[x] ≠ .free) :
    pool'.alloc[x] = pool.alloc[x] ∧ pool'.blocks[x] = pool.blocks[x] := by
  cases appends with
  | opened b free =>
    have other : b ≠ x := fun eq => used (eq ▸ free)
    exact ⟨get_set_other _ _ other, get_set_other _ _ other⟩
  | filled init tail =>
    have other : tail ≠ x := fun eq => notOwn (by simp [eq])
    exact ⟨get_set_other _ _ other, get_set_other _ _ other⟩
  | grown init tail b _ free =>
    have other : b ≠ x := fun eq => used (eq ▸ free)
    have notTail : tail ≠ x := fun eq => notOwn (by simp [eq])
    exact ⟨(get_set_other _ _ other).trans (get_set_other _ _ notTail), get_set_other _ _ other⟩
  | recycled first mid tail =>
    have other : first ≠ x := fun eq => notOwn (by simp [eq])
    have notTail : tail ≠ x := fun eq => notOwn (by simp [eq])
    exact ⟨(get_set_other _ _ other).trans (get_set_other _ _ notTail), get_set_other _ _ other⟩

/-- A kept record stands at the end of its chain, which loses its first six records when it recycles (R134 to
R136). -/
theorem Appends.records {pool' : HistoryPool} {l' : List BlockIx} (appends : Appends pool h l (some (pool', l')))
    (linked : l ≠ [] → Linked pool.alloc l) :
    let recycles := (listRecords pool l).length = 6 * l.length ∧
      (l.length = 4 ∨ ∀ b : BlockIx, pool.alloc[b] ≠ .free)
    (recycles → listRecords pool' l' = (listRecords pool l).drop 6 ++ [h]) ∧
      (¬ recycles → listRecords pool' l' = listRecords pool l ++ [h]) := by
  cases appends with
  | opened b free =>
    refine ⟨fun ⟨_, reason⟩ => ?_, fun _ => ?_⟩
    · rcases reason with four | noFree
      · cases four
      · exact (noFree b free).elim
    · rw [listRecords_singleton, blockRecords_openBlock]
      rfl
  | filled init tail top slot last next =>
    have whole := linked (by simp)
    refine ⟨fun ⟨full, _⟩ => ?_, fun _ => ?_⟩
    · have top_eq := (listRecords_full_iff (linked_concat_iff.1 whole).1 last).1 full
      rw [top_eq] at next
      have := slot.isLt
      simp at next
      omega
    · have same : listRecords (pool.fillSlot tail slot h) init = listRecords pool init :=
        listRecords_congr fun x hx =>
          have other := (ne_of_mem_of_not_mem hx whole.last_not_mem).symm
          ⟨get_set_other _ _ other, get_set_other _ _ other⟩
      rw [listRecords_append, listRecords_append, listRecords_singleton, listRecords_singleton, same,
        blockRecords_fillSlot last next, List.append_assoc]
  | grown init tail b full free short =>
    have whole := linked (by simp)
    have notOwn (x : BlockIx) (hx : x ∈ init ++ [tail]) : b ≠ x := fun eq => whole.not_free hx (eq ▸ free)
    refine ⟨fun ⟨_, reason⟩ => ?_, fun _ => ?_⟩
    · rcases reason with four | noFree
      · simp at four
        omega
      · exact (noFree b free).elim
    · rw [listRecords_append, listRecords_singleton, blockRecords_openBlock,
        listRecords_moved notOwn whole.last_not_mem full]
  | recycled first mid tail full reason =>
    have whole := linked nofun
    have rest : Linked pool.alloc (mid ++ [tail]) := Linked.of_append (l := [first]) whole (by simp)
    have notFirst (x : BlockIx) (hx : x ∈ mid ++ [tail]) : first ≠ x := fun eq =>
      (List.nodup_cons.1 whole.nodup).1 (eq ▸ hx)
    have head : (blockRecords pool first).length = 6 := by
      rw [blockRecords_of_init (l := first :: mid) whole.1 (by simp), Vector.length_toList]
    refine ⟨fun _ => ?_, fun not => (not ⟨?_, reason.imp_left fun two => by simp [two]⟩).elim⟩
    · rw [listRecords_append, listRecords_singleton, blockRecords_openBlock,
        listRecords_moved notFirst rest.last_not_mem full, listRecords_cons, ← head,
        List.drop_left]
    · exact (listRecords_full_iff (l := first :: mid) whole.1 full).2 rfl

end Pool

/-! ## The obligation -/

/-- A record is appended in one of the forms of Table 7-8, or dropped with HISTORY_LOST. -/
theorem appendHistory_appends {s : State} (h : ChainsMeetR131 s.elements s.pool.alloc) (e : ElementIx)
    (record : HistoryRecord) :
    (∃ pool l, Appends s.pool record (chainOf s.pool.alloc s.elements[e].head) (some (pool, l)) ∧
      s.appendHistory e record =
        ({ s with elements := s.elements.set e { s.elements[e] with head := l.head? }, pool := pool }, true)) ∨
    (Appends s.pool record (chainOf s.pool.alloc s.elements[e].head) none ∧
      s.appendHistory e record =
        (raiseAt (fun q => s.settings.binds q s.elements[e].machine) .historyLost s, false)) := by
  have owns := h.owns
  obtain ⟨r, appends, result⟩ := append_appends record rfl (owns.head e) (owns.linked e) (owns.short e)
  rcases appendHistory_cases s e record with ⟨pool, head, kept, eq⟩ | ⟨dropped, eq⟩
  · rw [kept] at result
    cases r with
    | none => cases result
    | some x =>
      cases result
      exact .inl ⟨x.1, x.2, appends, eq⟩
  · rw [dropped] at result
    cases r with
    | none => exact .inr ⟨appends, eq⟩
    | some x => cases result

/-- Settles O38: the form of the append gives the chain and the records it leaves. -/
theorem appendsKeepTheNewestRecords : Obligations.AppendsKeepTheNewestRecords := by
  intro s e h ready meets defined chain records noFree full t
  have owns := meets.owns
  rcases appendHistory_appends meets e h with ⟨pool, l, appends, eq⟩ | ⟨appends, eq⟩
  · have kept := appends.eq_none_iff (owns.linked e)
    have after := owns.append (r := { s.elements[e] with head := l.head? }) appends rfl defined
    have t_eq : t = _ := congrArg Prod.fst eq
    have stored : (s.appendHistory e h).2 = true := congrArg Prod.snd eq
    have notDropped : ¬ (noFree ∧ full ∧ chain.length ≤ 1) := mt kept.2 nofun
    have recordsAfter (f : ElementIx) : records t f =
        listRecords pool (Function.update (fun e => chainOf s.pool.alloc s.elements[e].head) e l f) := by
      rw [← after.chainOf f, t_eq]
      rfl
    have own : records t e = listRecords pool l := by rw [recordsAfter, Function.update_self]
    obtain ⟨recycled, added⟩ := appends.records (owns.linked e)
    refine ⟨t_eq ▸ after.meets, fun f other => ?_, ?_, fun dropped => (notDropped dropped).elim, fun _ => ⟨?_, ?_, ?_⟩⟩
    · rw [recordsAfter, Function.update_of_ne other]
      refine listRecords_congr fun x hx => ?_
      exact appends.other_blocks (fun own => other (owns.disjoint f e x hx own))
        ((owns.linked f (List.ne_nil_of_mem hx)).not_free hx)
    · rw [stored]
      exact iff_of_false nofun notDropped
    · exact fun recycles => own.trans (recycled recycles)
    · exact fun keeps => own.trans (added keeps)
    · rw [t_eq]
  · have dropped : noFree ∧ full ∧ chain.length ≤ 1 := (appends.eq_none_iff (owns.linked e)).1 rfl
    have t_eq : t = _ := congrArg Prod.fst eq
    have notStored : (s.appendHistory e h).2 = false := congrArg Prod.snd eq
    obtain ⟨elements, pool, _⟩ :=
      raiseAt_frame (fun q => s.settings.binds q s.elements[e].machine) .historyLost s
    refine ⟨?_, fun f _ => ?_, iff_of_true notStored dropped, fun _ => t_eq, fun not => (not dropped).elim⟩
    · rw [t_eq, elements, pool]
      exact meets
    · simp only [records, t_eq, elements, pool]

end Sys2Proof.Machine

/-! # Proofs: chain repair and the soundness of chains (section 7.3, R182) -/

namespace Sys2Proof.Machine

/-! ## The blocks that a repair walk keeps -/

section Kept

variable {alloc alloc' : Vector AllocEntry 256} {visited : Vector Bool 256} {fuel : Nat} {b x tail : BlockIx}
  {l rest : List BlockIx}

/-- A walk that keeps a block goes on behind it only along a NEXT entry, with the block visited. -/
theorem keptBlocks_cases (alloc : Vector AllocEntry 256) (fuel : Nat) (visited : Vector Bool 256) (b : BlockIx) :
    (visited[b] = true ∨ alloc[b] = .free) ∧ keptBlocks alloc (fuel + 1) visited b = [] ∨
    (∃ top, visited[b] = false ∧ alloc[b] = .last top ∧ keptBlocks alloc (fuel + 1) visited b = [b]) ∨
    ∃ n, visited[b] = false ∧ alloc[b] = .next n ∧
      keptBlocks alloc (fuel + 1) visited b = b :: keptBlocks alloc fuel (visited.set b true) n := by
  rw [keptBlocks]
  by_cases seen : visited[b] = true
  · exact .inl ⟨.inl seen, if_pos seen⟩
  · rw [if_neg seen]
    rw [Bool.not_eq_true] at seen
    split
    · next free => exact .inl ⟨.inr free, rfl⟩
    · next top last => exact .inr (.inl ⟨top, seen, last, rfl⟩)
    · next n next => exact .inr (.inr ⟨n, seen, next, rfl⟩)

theorem chainFrom_of_free (h : alloc[b] = .free) : chainFrom alloc (fuel + 1) b = [] := by
  simp only [chainFrom, h]

theorem chainFrom_of_last {top : RecordSlot} (h : alloc[b] = .last top) : chainFrom alloc (fuel + 1) b = [b] := by
  simp only [chainFrom, h]

theorem chainFrom_of_next {n : BlockIx} (h : alloc[b] = .next n) :
    chainFrom alloc (fuel + 1) b = b :: chainFrom alloc fuel n := by
  simp only [chainFrom, h]

theorem chainFrom_head? : ∀ y ∈ (chainFrom alloc fuel b).head?, y = b := by
  cases fuel with
  | zero => exact nofun
  | succ fuel =>
    cases entry : alloc[b] with
    | free =>
      rw [chainFrom_of_free entry]
      exact nofun
    | last top =>
      rw [chainFrom_of_last entry]
      exact fun y hy => (Option.some.inj hy).symm
    | next n =>
      rw [chainFrom_of_next entry]
      exact fun y hy => (Option.some.inj hy).symm

/-- The kept blocks are a first part of the chain found. -/
theorem keptBlocks_isPrefix : keptBlocks alloc fuel visited b <+: chainFrom alloc fuel b := by
  induction fuel generalizing visited b with
  | zero => exact List.prefix_rfl
  | succ fuel ih =>
    rcases keptBlocks_cases alloc fuel visited b with ⟨_, kept⟩ | ⟨_, _, entry, kept⟩ | ⟨_, _, entry, kept⟩ <;>
      rw [kept]
    · exact List.nil_prefix
    · rw [chainFrom_of_last entry]
    · rw [chainFrom_of_next entry]
      exact List.prefix_cons_inj b |>.2 ih

/-- A walk keeps blocks that were not visited, and none twice. -/
theorem keptBlocks_fresh (hx : x ∈ keptBlocks alloc fuel visited b) : visited[x] = false := by
  induction fuel generalizing visited b with
  | zero => cases hx
  | succ fuel ih =>
    rcases keptBlocks_cases alloc fuel visited b with ⟨_, kept⟩ | ⟨_, seen, _, kept⟩ | ⟨n, seen, _, kept⟩ <;>
      rw [kept] at hx
    · cases hx
    · rwa [List.mem_singleton.1 hx]
    · rcases List.mem_cons.1 hx with rfl | hx
      · exact seen
      · have later := ih hx
        rw [get_set] at later
        split at later
        · cases later
        · exact later

theorem keptBlocks_nodup : (keptBlocks alloc fuel visited b).Nodup := by
  induction fuel generalizing visited b with
  | zero => exact .nil
  | succ fuel ih =>
    rcases keptBlocks_cases alloc fuel visited b with ⟨_, kept⟩ | ⟨_, _, _, kept⟩ | ⟨_, _, _, kept⟩ <;> rw [kept]
    · exact .nil
    · exact List.nodup_singleton b
    · refine List.nodup_cons.2 ⟨fun again => ?_, ih⟩
      have seen := keptBlocks_fresh again
      rw [get_set_same] at seen
      cases seen

theorem keptBlocks_not_free (hx : x ∈ keptBlocks alloc fuel visited b) : alloc[x] ≠ .free := by
  induction fuel generalizing visited b with
  | zero => cases hx
  | succ fuel ih =>
    rcases keptBlocks_cases alloc fuel visited b with ⟨_, kept⟩ | ⟨_, _, entry, kept⟩ | ⟨_, _, entry, kept⟩ <;>
      rw [kept] at hx
    · cases hx
    · rw [List.mem_singleton.1 hx, entry]
      exact nofun
    · rcases List.mem_cons.1 hx with rfl | hx
      · rw [entry]
        exact nofun
      · exact ih hx

theorem chainFrom_isChain : (chainFrom alloc fuel b).IsChain fun a c => alloc[a] = .next c := by
  induction fuel generalizing b with
  | zero => exact .nil
  | succ fuel ih =>
    cases entry : alloc[b] with
    | free =>
      rw [chainFrom_of_free entry]
      exact .nil
    | last top =>
      rw [chainFrom_of_last entry]
      exact .singleton b
    | next n =>
      rw [chainFrom_of_next entry]
      exact List.isChain_cons.2 ⟨fun c hc => by rw [chainFrom_head? c hc, entry], ih⟩

/-- A chain found is cut only before a visited block or one that the walk itself keeps. -/
theorem keptBlocks_cut (h : keptBlocks alloc fuel visited b ++ x :: rest = chainFrom alloc fuel b) :
    x ∈ keptBlocks alloc fuel visited b ∨ visited[x] = true := by
  induction fuel generalizing visited b with
  | zero => simp [chainFrom] at h
  | succ fuel ih =>
    rcases keptBlocks_cases alloc fuel visited b with ⟨stop, kept⟩ | ⟨_, _, entry, kept⟩ | ⟨n, _, entry, kept⟩ <;>
      rw [kept] at h ⊢
    · rcases stop with seen | free
      · have first : x = b := chainFrom_head? x (by rw [← h]; rfl)
        exact .inr (first ▸ seen)
      · rw [chainFrom_of_free free] at h
        cases h
    · rw [chainFrom_of_last entry] at h
      simp at h
    · rw [chainFrom_of_next entry] at h
      rcases ih (List.cons.inj h).2 with again | seen
      · exact .inl (List.mem_cons_of_mem b again)
      · rw [get_set] at seen
        split at seen
        · next eq => exact .inl (by rw [eq]; exact List.mem_cons_self)
        · exact .inr seen

/-- A walk reads no entry of a visited block. -/
theorem keptBlocks_congr (same : ∀ x : BlockIx, visited[x] = false → alloc'[x] = alloc[x]) :
    keptBlocks alloc' fuel visited b = keptBlocks alloc fuel visited b := by
  induction fuel generalizing visited b with
  | zero => rfl
  | succ fuel ih =>
    rw [keptBlocks, keptBlocks]
    by_cases seen : visited[b] = true
    · rw [if_pos seen, if_pos seen]
    · rw [if_neg seen, if_neg seen, same b (Bool.not_eq_true _ ▸ seen)]
      have later (n : BlockIx) := ih (visited := visited.set b true) (b := n) fun x hx => by
        rw [get_set] at hx
        split at hx
        · cases hx
        · exact same x hx
      simp only [later]

theorem closeChain_other (h : x ≠ b) : (closeChain alloc b)[x] = alloc[x] := by
  unfold closeChain
  split
  · exact get_set_other _ _ h.symm
  · rfl

theorem closeChain_same (h : alloc[b] ≠ .free) :
    (∃ top, alloc[b] = .last top ∧ (closeChain alloc b)[b] = .last top) ∨
      (∃ n, alloc[b] = .next n) ∧ (closeChain alloc b)[b] = .last 5 := by
  unfold closeChain
  cases entry : alloc[b] with
  | free => exact (h entry).elim
  | last top => exact .inl ⟨top, rfl, entry⟩
  | next n => exact .inr ⟨⟨n, rfl⟩, get_set_same ..⟩

/-- A closed list of joined blocks is a chain. -/
theorem linked_closeChain (chain : (l ++ [tail]).IsChain fun a c => alloc[a] = .next c) (nodup : (l ++ [tail]).Nodup)
    (notFree : alloc[tail] ≠ .free) : Linked (closeChain alloc tail) (l ++ [tail]) := by
  have notInit : tail ∉ l := fun again => List.disjoint_of_nodup_append nodup again (List.mem_singleton_self tail)
  have same (x : BlockIx) (hx : x ∈ l) : (closeChain alloc tail)[x] = alloc[x] :=
    closeChain_other (ne_of_mem_of_not_mem hx notInit)
  obtain ⟨front, _, bridge⟩ := List.isChain_append.1 chain
  refine linked_concat_iff.2 ⟨List.isChain_append.2 ⟨?_, .singleton _, ?_⟩, ?_⟩
  · exact front.imp_of_mem_imp fun x _ hx _ step => (same x hx).trans step
  · exact fun x hx y hy => (same x (List.mem_of_getLast? hx)).trans (bridge x hx y hy)
  · rcases closeChain_same notFree with ⟨top, _, last⟩ | ⟨_, last⟩
    · exact ⟨top, last⟩
    · exact ⟨5, last⟩

theorem visitAll_get (l : List BlockIx) (visited : Vector Bool 256) (x : BlockIx) :
    (l.foldl (fun (v : Vector Bool 256) (b : BlockIx) => v.set b true) visited)[x] = true ↔
      x ∈ l ∨ visited[x] = true := by
  induction l generalizing visited with
  | nil => simp
  | cons b rest ih =>
    rw [List.foldl_cons, ih, get_set, List.mem_cons]
    by_cases eq : b = x
    · simp [eq]
    · rw [if_neg eq]
      simp [Ne.symm eq]

end Kept

/-! ## The walk over the records -/

/-- What the repair walk over the first `n` records has kept of their chains (R182). -/
structure Walked (elements : Vector Element 512) (alloc : Vector AllocEntry 256) (n : Nat) (rp : Repair)
    (kept : ElementIx → List BlockIx) : Prop where
  later : ∀ e, n ≤ e.val → kept e = []
  vacant : ∀ e : ElementIx, elements[e].state = .vacant → kept e = []
  found : ∀ e : ElementIx, kept e <+: chainOf alloc elements[e].head
  linked : ∀ e, kept e ≠ [] → Linked rp.alloc (kept e)
  visited : ∀ b : BlockIx, rp.visited[b] = true ↔ ∃ e, b ∈ kept e
  disjoint : ∀ e f b, b ∈ kept e → b ∈ kept f → e = f
  entry : ∀ b : BlockIx, rp.alloc[b] = alloc[b] ∨
    ∃ e, (kept e).getLast? = some b ∧ (∃ n, alloc[b] = .next n) ∧ rp.alloc[b] = .last 5
  dropped : ∀ e : ElementIx, e ∈ rp.dropped ↔ e.val < n ∧ elements[e].head ≠ none ∧ kept e = []
  cut : ∀ (e : ElementIx) (b : BlockIx) (rest : List BlockIx), e.val < n → elements[e].state ≠ .vacant →
    kept e ++ b :: rest = chainOf alloc elements[e].head → b ∈ kept e ∨ ∃ f : ElementIx, f < e ∧ b ∈ kept f

section Walked

variable {elements : Vector Element 512} {alloc : Vector AllocEntry 256} {n : Nat} {rp : Repair}
  {kept : ElementIx → List BlockIx} {e : ElementIx}

theorem walked_zero : Walked elements alloc 0 { alloc := alloc, visited := Vector.replicate 256 false, dropped := [] }
    fun _ => [] where
  later _ _ := rfl
  vacant _ _ := rfl
  found _ := List.nil_prefix
  linked _ ne := (ne rfl).elim
  visited b := by
    rw [get_replicate]
    simp
  disjoint _ _ _ h := nomatch h
  entry _ := .inl rfl
  dropped _ := by simp
  cut _ _ _ h := (Nat.not_lt_zero _ h).elim

/-- A record whose chain is dropped, or that has none, keeps nothing. -/
theorem Walked.keep_nothing (h : Walked elements alloc e.val rp kept) {l : List ElementIx}
    (dropped : ∀ f, f ∈ l ↔ f ∈ rp.dropped ∨ f = e ∧ elements[e].head ≠ none)
    (cut : ∀ (b : BlockIx) (rest : List BlockIx), elements[e].state ≠ .vacant →
      chainOf alloc elements[e].head = b :: rest → rp.visited[b] = true) :
    Walked elements alloc (e.val + 1) { rp with dropped := l } kept where
  later f hf := h.later f (by omega)
  vacant := h.vacant
  found := h.found
  linked := h.linked
  visited := h.visited
  disjoint := h.disjoint
  entry := h.entry
  dropped f := by
    rw [dropped, h.dropped]
    constructor
    · rintro (⟨before, rest⟩ | ⟨rfl, head⟩)
      · exact ⟨by omega, rest⟩
      · exact ⟨by omega, head, h.later f le_rfl⟩
    · rintro ⟨upTo, head, nothing⟩
      rcases Nat.lt_or_eq_of_le (Nat.le_of_lt_succ upTo) with before | now
      · exact .inl ⟨before, head, nothing⟩
      · cases Fin.ext now
        exact .inr ⟨rfl, head⟩
  cut f b rest upTo defined split := by
    rcases Nat.lt_or_eq_of_le (Nat.le_of_lt_succ upTo) with before | now
    · exact h.cut f b rest before defined split
    · cases Fin.ext now
      rw [h.later e le_rfl, List.nil_append] at split
      obtain ⟨g, hg⟩ := (h.visited b).1 (cut b rest defined split.symm)
      refine .inr ⟨g, ?_, hg⟩
      by_contra notBefore
      rw [h.later g (Fin.not_lt.1 notBefore)] at hg
      cases hg

/-- A record that keeps a list of blocks closes its chain behind them. -/
theorem Walked.keep (h : Walked elements alloc e.val rp kept) {head : BlockIx} (own : elements[e].head = some head)
    (defined : elements[e].state ≠ .vacant) {tail : BlockIx}
    (last : (keptBlocks alloc Config.maxChainBlocks rp.visited head).getLast? = some tail) :
    Walked elements alloc (e.val + 1)
      { rp with
        alloc := closeChain rp.alloc tail
        visited := (keptBlocks alloc Config.maxChainBlocks rp.visited head).foldl
          (fun (v : Vector Bool 256) (b : BlockIx) => v.set b true) rp.visited }
      (Function.update kept e (keptBlocks alloc Config.maxChainBlocks rp.visited head)) := by
  have chain : chainOf alloc elements[e].head = chainFrom alloc Config.maxChainBlocks head := by rw [own]; rfl
  have fresh (x : BlockIx) := keptBlocks_fresh (alloc := alloc) (fuel := Config.maxChainBlocks)
    (visited := rp.visited) (b := head) (x := x)
  have first := keptBlocks_isPrefix (alloc := alloc) (fuel := Config.maxChainBlocks) (visited := rp.visited) (b := head)
  have cut (x : BlockIx) (rest : List BlockIx) := keptBlocks_cut (alloc := alloc) (fuel := Config.maxChainBlocks)
    (visited := rp.visited) (b := head) (x := x) (rest := rest)
  have nodup := keptBlocks_nodup (alloc := alloc) (fuel := Config.maxChainBlocks) (visited := rp.visited) (b := head)
  have notFree (x : BlockIx) := keptBlocks_not_free (alloc := alloc) (fuel := Config.maxChainBlocks)
    (visited := rp.visited) (b := head) (x := x)
  rw [← chain] at first
  rw [← chain] at cut
  generalize keptBlocks alloc Config.maxChainBlocks rp.visited head = l at *
  have nothing : kept e = [] := h.later e le_rfl
  have apart (f : ElementIx) (x : BlockIx) (hf : x ∈ kept f) : x ∉ l := fun hx => by
    have seen := (h.visited x).2 ⟨f, hf⟩
    rw [fresh x hx] at seen
    cases seen
  have unread (x : BlockIx) (hx : x ∈ l) : rp.alloc[x] = alloc[x] := by
    rcases h.entry x with same | ⟨f, at_, _⟩
    · exact same
    · exact (apart f x (List.mem_of_getLast? at_) hx).elim
  have tailMem : tail ∈ l := List.mem_of_getLast? last
  have tailEntry : rp.alloc[tail] ≠ .free := unread tail tailMem ▸ notFree tail tailMem
  have keptOther (f : ElementIx) (hf : f ≠ e) : Function.update kept e l f = kept f := Function.update_of_ne hf ..
  have keptOwn : Function.update kept e l e = l := Function.update_self ..
  constructor
  · intro f hf
    rw [keptOther f fun eq => by rw [eq] at hf; omega]
    exact h.later f (by omega)
  · intro f vacant
    rw [keptOther f fun eq => defined (eq ▸ vacant)]
    exact h.vacant f vacant
  · intro f
    by_cases hf : f = e
    · rw [hf, keptOwn]
      exact first
    · rw [keptOther f hf]
      exact h.found f
  · intro f
    by_cases hf : f = e
    · rw [hf, keptOwn]
      intro _
      obtain ⟨init, rfl⟩ := List.getLast?_eq_some_iff.1 last
      refine linked_closeChain ?_ nodup tailEntry
      have joined : (init ++ [tail]).IsChain fun a c => alloc[a] = .next c := by
        obtain ⟨rest, split⟩ := first
        have whole : (chainOf alloc elements[e].head).IsChain fun a c => alloc[a] = .next c := chain ▸ chainFrom_isChain
        rw [← split] at whole
        exact whole.left_of_append
      exact joined.imp_of_mem_imp fun x _ hx _ step => (unread x hx).trans step
    · rw [keptOther f hf]
      exact fun ne => (h.linked f ne).congr fun b hb =>
        closeChain_other fun eq => apart f b hb (eq ▸ tailMem)
  · intro b
    rw [visitAll_get, h.visited]
    constructor
    · rintro (own | ⟨f, hf⟩)
      · exact ⟨e, keptOwn.symm ▸ own⟩
      · exact ⟨f, by rwa [keptOther f fun eq => by rw [eq, nothing] at hf; cases hf]⟩
    · rintro ⟨f, hf⟩
      by_cases eq : f = e
      · rw [eq, keptOwn] at hf
        exact .inl hf
      · exact .inr ⟨f, keptOther f eq ▸ hf⟩
  · intro f g b
    by_cases hf : f = e <;> by_cases hg : g = e
    · exact fun _ _ => hf.trans hg.symm
    · rw [hf, keptOwn, keptOther g hg]
      exact fun own other => (apart g b other own).elim
    · rw [hg, keptOwn, keptOther f hf]
      exact fun other own => (apart f b other own).elim
    · rw [keptOther f hf, keptOther g hg]
      exact h.disjoint f g b
  · intro b
    by_cases hb : b = tail
    · subst hb
      rcases closeChain_same tailEntry with ⟨top, entry, closed⟩ | ⟨next, closed⟩
      · exact .inl (by rw [closed, ← entry, unread b tailMem])
      · exact .inr ⟨e, by rw [keptOwn, last], by rwa [unread b tailMem] at next, closed⟩
    · rw [closeChain_other hb]
      rcases h.entry b with same | ⟨f, at_, entry⟩
      · exact .inl same
      · exact .inr ⟨f, by rwa [keptOther f fun eq => by rw [eq, nothing] at at_; cases at_], entry⟩
  · intro f
    rw [h.dropped]
    by_cases hf : f = e
    · subst hf
      rw [keptOwn]
      exact iff_of_false (fun now => Nat.lt_irrefl _ now.1) fun now => List.ne_nil_of_mem tailMem now.2.2
    · rw [keptOther f hf]
      have : f.val < e.val ↔ f.val < e.val + 1 := by
        have : f.val ≠ e.val := fun eq => hf (Fin.ext eq)
        omega
      rw [this]
  · intro f b rest upTo defined split
    by_cases hf : f = e
    · subst hf
      rw [keptOwn] at split ⊢
      rcases cut b rest split with own | seen
      · exact .inl own
      · obtain ⟨g, hg⟩ := (h.visited b).1 seen
        have before : g < f := by
          by_contra notBefore
          rw [h.later g (Fin.not_lt.1 notBefore)] at hg
          cases hg
        exact .inr ⟨g, before, by rwa [keptOther g before.ne]⟩
    · have before : f < e := by
        have : f.val ≠ e.val := fun eq => hf (Fin.ext eq)
        exact Fin.lt_def.2 (by omega)
      rw [keptOther f hf] at split ⊢
      rcases h.cut f b rest before defined split with own | ⟨g, lower, hg⟩
      · exact .inl own
      · exact .inr ⟨g, lower, by rwa [keptOther g (lower.trans before).ne]⟩

theorem repairRecord_vacant {r : Element} {head : BlockIx} (own : r.head = some head) (vacant : r.state = .vacant) :
    repairRecord rp e r = { rp with dropped := e :: rp.dropped } := by
  simp only [repairRecord, own, vacant]

theorem repairRecord_dropped {r : Element} {head : BlockIx} (own : r.head = some head) (defined : r.state ≠ .vacant)
    (last : (keptBlocks rp.alloc Config.maxChainBlocks rp.visited head).getLast? = none) :
    repairRecord rp e r = { rp with dropped := e :: rp.dropped } := by
  cases state : r.state with
  | vacant => exact (defined state).elim
  | active | suspended => simp only [repairRecord, own, state, last]

theorem repairRecord_kept {r : Element} {head tail : BlockIx} (own : r.head = some head)
    (defined : r.state ≠ .vacant)
    (last : (keptBlocks rp.alloc Config.maxChainBlocks rp.visited head).getLast? = some tail) :
    repairRecord rp e r =
      { rp with
        alloc := closeChain rp.alloc tail
        visited := (keptBlocks rp.alloc Config.maxChainBlocks rp.visited head).foldl
          (fun (v : Vector Bool 256) (b : BlockIx) => v.set b true) rp.visited } := by
  cases state : r.state with
  | vacant => exact (defined state).elim
  | active | suspended => simp only [repairRecord, own, state, last]

theorem repairRecord_walked (h : Walked elements alloc e.val rp kept) :
    ∃ kept', Walked elements alloc (e.val + 1) (repairRecord rp e elements[e]) kept' := by
  cases own : elements[e].head with
  | none =>
    have unchanged : repairRecord rp e elements[e] = rp := by simp only [repairRecord, own]
    rw [unchanged]
    refine ⟨kept, h.keep_nothing (l := rp.dropped) (fun f => by rw [own]; simp) fun b rest _ chain => ?_⟩
    rw [own] at chain
    cases chain
  | some head =>
    have dropNow : ∀ f, f ∈ e :: rp.dropped ↔ f ∈ rp.dropped ∨ f = e ∧ elements[e].head ≠ none := fun f => by
      rw [own, List.mem_cons]
      tauto
    by_cases vacant : elements[e].state = .vacant
    · rw [repairRecord_vacant own vacant]
      exact ⟨kept, h.keep_nothing dropNow fun _ _ defined => (defined vacant).elim⟩
    · have read : keptBlocks rp.alloc Config.maxChainBlocks rp.visited head =
          keptBlocks alloc Config.maxChainBlocks rp.visited head := keptBlocks_congr fun x notSeen => by
        rcases h.entry x with same | ⟨f, at_, _⟩
        · exact same
        · rw [(h.visited x).2 ⟨f, List.mem_of_getLast? at_⟩] at notSeen
          cases notSeen
      cases last : (keptBlocks alloc Config.maxChainBlocks rp.visited head).getLast? with
      | none =>
        rw [repairRecord_dropped own vacant (read ▸ last)]
        refine ⟨kept, h.keep_nothing dropNow fun b rest _ chain => ?_⟩
        have nothing := List.getLast?_eq_none_iff.1 last
        rw [own] at chain
        rcases keptBlocks_cut (x := b) (rest := rest) (by rw [nothing]; exact chain.symm) with kept | seen
        · rw [nothing] at kept
          cases kept
        · exact seen
      | some tail =>
        rw [repairRecord_kept own vacant (read ▸ last), read]
        exact ⟨_, h.keep own vacant last⟩

end Walked

/-- The walk over all the records keeps lists of blocks as R182 wants them. -/
theorem repairWalk_walked (elements : Vector Element 512) (alloc : Vector AllocEntry 256) :
    ∃ kept, Walked elements alloc 512 (repairWalk elements alloc) kept := by
  have upTo (n : Nat) (hn : n ≤ 512) : ∃ kept, Walked elements alloc n
      (((List.finRange 512).take n).foldl (fun rp e => repairRecord rp e elements[e])
        { alloc := alloc, visited := Vector.replicate 256 false, dropped := [] }) kept := by
    induction n with
    | zero => exact ⟨_, walked_zero⟩
    | succ n ih =>
      obtain ⟨kept, walked⟩ := ih (by omega)
      have room : n < (List.finRange 512).length := by rw [List.length_finRange]; omega
      rw [List.take_succ_eq_append_getElem room, List.foldl_append, List.getElem_finRange]
      exact repairRecord_walked (e := ⟨n, by omega⟩) walked
  have whole := upTo 512 le_rfl
  rwa [List.take_of_length_le (by rw [List.length_finRange])] at whole

/-! ## The store that the walk leaves -/

theorem dropHeads_get (rp : Repair) (elements : Vector Element 512) (e : ElementIx) :
    (rp.dropHeads elements)[e] = if e ∈ rp.dropped then { elements[e] with head := none } else elements[e] := by
  unfold Repair.dropHeads
  induction rp.dropped generalizing elements with
  | nil => rfl
  | cons f rest ih =>
    rw [List.foldl_cons, ih, get_set]
    by_cases eq : f = e
    · subst eq
      simp
    · rw [if_neg eq]
      simp [Ne.symm eq]

theorem freeUnvisited_get (rp : Repair) (b : BlockIx) :
    rp.freeUnvisited[b] = if rp.visited[b] = true then rp.alloc[b] else .free := get_ofFn ..

/-- The repaired store holds the lists that the walk kept, and meets R131 with them (R182). -/
theorem Walked.owns {elements : Vector Element 512} {alloc : Vector AllocEntry 256} {rp : Repair}
    {kept : ElementIx → List BlockIx} (h : Walked elements alloc 512 rp kept) :
    OwnsChains (rp.dropHeads elements) rp.freeUnvisited kept where
  head e := by
    have dropped := h.dropped e
    have first := h.found e
    rw [dropHeads_get]
    split
    · next isDropped =>
      rw [(dropped.1 isDropped).2.2]
      rfl
    · next notDropped =>
      cases own : elements[e].head with
      | none =>
        rw [own] at first
        rw [List.prefix_nil.1 first]
        rfl
      | some head =>
        cases hk : kept e with
        | nil => exact (notDropped (dropped.2 ⟨e.isLt, by rw [own]; exact nofun, hk⟩)).elim
        | cons b rest =>
          obtain ⟨_, split⟩ := first
          rw [own, hk] at split
          rw [chainFrom_head? b (by rw [show chainFrom alloc Config.maxChainBlocks head = _ from split.symm]; rfl)]
          rfl
  linked e ne := (h.linked e ne).congr fun b hb => by
    rw [freeUnvisited_get, if_pos ((h.visited b).2 ⟨e, hb⟩)]
  short e := by
    have four : (chainOf alloc elements[e].head).length ≤ 4 := by
      cases elements[e].head with
      | none => exact Nat.zero_le _
      | some head => exact chainFrom_length (alloc := alloc) 4
    exact (h.found e).length_le.trans four
  vacant e state := by
    refine h.vacant e ?_
    rw [dropHeads_get] at state
    split at state <;> exact state
  owned b used := by
    rw [freeUnvisited_get] at used
    split at used
    · next seen => exact (h.visited b).1 seen
    · exact (used rfl).elim
  disjoint := h.disjoint

/-- The repaired store is what a walk over all the records leaves. -/
theorem State.repair_walked (s : State) : ∃ rp kept, Walked s.elements s.pool.alloc 512 rp kept ∧
    s.repair.elements = rp.dropHeads s.elements ∧ s.repair.pool.alloc = rp.freeUnvisited := by
  obtain ⟨kept, walked⟩ := repairWalk_walked s.elements s.pool.alloc
  unfold State.repair
  generalize repairWalk s.elements s.pool.alloc = rp at *
  exact ⟨rp, kept, walked, rfl, rfl⟩

/-- Chain repair leaves a store that meets R131, whatever it found (R182). -/
theorem State.repair_meets (s : State) : ChainsMeetR131 s.repair.elements s.repair.pool.alloc := by
  obtain ⟨rp, kept, walked, elements, alloc⟩ := s.repair_walked
  rw [elements, alloc]
  exact walked.owns.meets

/-- On a store that meets R131 the walk keeps every chain whole: a cut block would stand in two chains, or twice in
one. -/
theorem Walked.kept_whole {elements : Vector Element 512} {alloc : Vector AllocEntry 256} {rp : Repair}
    {kept : ElementIx → List BlockIx} (h : Walked elements alloc 512 rp kept) (meets : ChainsMeetR131 elements alloc)
    (e : ElementIx) : kept e = chainOf alloc elements[e].head := by
  have owns := meets.owns
  obtain ⟨rest, split⟩ := h.found e
  cases rest with
  | nil => rw [← split, List.append_nil]
  | cons b rest =>
    have member : b ∈ chainOf alloc elements[e].head := by
      rw [← split]
      simp
    have defined : elements[e].state ≠ .vacant := fun vacant => by
      rw [owns.vacant e vacant] at member
      cases member
    rcases h.cut e b rest e.isLt defined split with again | ⟨f, before, other⟩
    · have nodup := (owns.linked e (List.ne_nil_of_mem member)).nodup
      rw [← split] at nodup
      exact (List.disjoint_of_nodup_append nodup again List.mem_cons_self).elim
    · exact (before.ne (owns.disjoint f e b ((h.found f).subset other) member)).elim

/-- Chain repair changes nothing on a store that meets R131. -/
theorem State.repair_of_meets {s : State} (meets : ChainsMeetR131 s.elements s.pool.alloc) :
    s.repair.elements = s.elements ∧ s.repair.pool.alloc = s.pool.alloc := by
  obtain ⟨rp, kept, walked, elements, alloc⟩ := s.repair_walked
  have whole := walked.kept_whole meets
  have owns := meets.owns
  have after := walked.owns
  rw [elements, alloc]
  constructor
  · refine table_ext fun e => ?_
    have head : (rp.dropHeads s.elements)[e].head = s.elements[e].head :=
      (after.head e).trans ((congrArg List.head? (whole e)).trans (owns.head e).symm)
    rw [dropHeads_get] at head ⊢
    split at head
    · next dropped =>
      rw [if_pos dropped, show (none : Option BlockIx) = s.elements[e].head from head]
    · next notDropped => rw [if_neg notDropped]
  · refine table_ext fun b => ?_
    rw [freeUnvisited_get]
    split
    · rcases walked.entry b with same | ⟨e, last, ⟨n, next⟩, _⟩
      · exact same
      · rw [whole e] at last
        have linked := owns.linked e (List.ne_nil_of_mem (List.mem_of_getLast? last))
        obtain ⟨_, tail, top, last', entry⟩ := linked
        cases last.symm.trans last'
        cases next.symm.trans entry
    · next notSeen =>
      by_contra used
      obtain ⟨e, he⟩ := meets.owned b fun free => used free.symm
      exact notSeen ((walked.visited b).2 ⟨e, whole e ▸ he⟩)

/-! ## The obligations -/

theorem HistoryPool.eq_of_fields {a b : HistoryPool} (alloc : a.alloc = b.alloc) (blocks : a.blocks = b.blocks) :
    a = b := by
  cases a
  cases b
  cases alloc
  cases blocks
  rfl

/-- Settles O52: the lists that the walk kept are the chains of the repaired store. -/
theorem chainRepairRestoresR131 : Obligations.ChainRepairRestoresR131 := by
  intro s t starting entered found kept
  obtain ⟨t', entered', elements, pool⟩ := enterReady_store starting
  cases entered.symm.trans entered'
  obtain ⟨rp, lists, walked, repairedElements, repairedAlloc⟩ := s.repair_walked
  obtain ⟨_, blocks, _⟩ := s.repair_frame
  have owns : OwnsChains t.elements t.pool.alloc lists := by
    rw [elements, pool, repairedElements, repairedAlloc]
    exact walked.owns
  have chains (e : ElementIx) : kept e = lists e := owns.chainOf e
  refine ⟨owns.meets, fun e => ?_, fun meets => ?_, by rw [pool, blocks], fun e => ?_, fun e b rest defined => ?_,
    fun e b => ?_⟩
  · rw [elements, repairedElements, dropHeads_get]
    split
    · exact .inr rfl
    · exact .inl rfl
  · obtain ⟨sameElements, sameAlloc⟩ := State.repair_of_meets meets
    exact ⟨elements.trans sameElements, pool.trans (HistoryPool.eq_of_fields sameAlloc blocks)⟩
  · rw [chains]
    exact walked.found e
  · simp only [chains]
    exact walked.cut e b rest e.isLt defined
  · rw [chains]
    intro own
    have seen := (walked.visited b).2 ⟨e, own⟩
    rw [pool, repairedAlloc, freeUnvisited_get, if_pos seen]
    rcases walked.entry b with same | ⟨f, last, next, entry⟩
    · exact .inl same
    · cases walked.disjoint e f b own (List.mem_of_getLast? last)
      exact .inr ⟨last, next, entry⟩

/-! ## Every step keeps the chains (R131) -/

/-- A record written with its head, and VACANT only with none, keeps the chains. -/
theorem ChainsMeetR131.set {elements : Vector Element 512} {alloc : Vector AllocEntry 256}
    (h : ChainsMeetR131 elements alloc) {e : ElementIx} {r : Element} (head : r.head = elements[e].head)
    (vacant : r.state = .vacant → elements[e].head = none) : ChainsMeetR131 (elements.set e r) alloc := by
  refine (h.owns.of_records (fun f => ?_) fun f => ?_).meets
  · rw [get_set]
    split
    · next eq => exact eq ▸ head
    · rfl
  · rw [get_set]
    split
    · next eq => exact eq ▸ vacant
    · exact h.vacant f

theorem ChainsMeetR131.of_same {s t : State} (h : ChainsMeetR131 s.elements s.pool.alloc)
    (elements : t.elements = s.elements) (pool : t.pool = s.pool) : ChainsMeetR131 t.elements t.pool.alloc := by
  rwa [elements, pool]

theorem move_keeps_chains {s t : State} (move : Move s t) (hs : ChainsMeetR131 s.elements s.pool.alloc) :
    ChainsMeetR131 t.elements t.pool.alloc := by
  cases move with
  | queue | links | plans | timer | supply | watch | foldStage | mark | hold | attention | settings | enable
  | windows | startUp | storeFold => exact hs
  | bank | clearBank => exact hs.of_same (State.setBank_elements ..) (State.setBank_pool ..)
  | release | swap | ask | finish | resetSlot => exact hs.of_same (by simp) (by simp)
  | define e r vacant _ state head => exact hs.set (by rw [head, hs.vacant e vacant]) fun v => by simp [state] at v
  | amend e r state _ _ head => exact hs.set head fun v => hs.vacant e (state ▸ v)
  | place e r _ state _ head => exact hs.set head fun v => by simp [state] at v
  | suspend e => exact hs.set rfl nofun
  | vacate e =>
    have owns := hs.owns
    refine (owns.replace (e := e) (r := s.elements[e].vacated) (l := []) rfl (fun ne => (ne rfl).elim) (Nat.zero_le _)
      (fun _ => rfl) nofun (fun b own _ => ?_) fun b other _ => ?_).meets
    · exact (get_ofFn ..).trans (if_pos own)
    · exact (get_ofFn ..).trans (if_neg other)
  | append e record pool head defined kept =>
    have owns := hs.owns
    obtain ⟨r, appends, result⟩ := append_appends record rfl (owns.head e) (owns.linked e) (owns.short e)
    rw [kept] at result
    cases r with
    | none => cases result
    | some x =>
      cases result
      exact (owns.append (r := { s.elements[e] with head := x.2.head? }) appends rfl defined).meets
  | enterReady =>
    obtain ⟨elements, pool, _⟩ := s.repair.entered_store
    rw [elements, pool]
    exact s.repair_meets

/-- Settles O60: a move writes the pool only by an append, a vacate or chain repair. -/
theorem everyStepKeepsChainsSound : Obligations.EveryStepKeepsChainsSound :=
  fun _ _ hs h => step_keeps (P := fun s => ChainsMeetR131 s.elements s.pool.alloc) move_keeps_chains hs h

end Sys2Proof.Machine

/-! # Proofs: the step, the reset and start-up (chapter 11) -/

namespace Sys2Proof.Machine

/-! ## The step and the reset -/

/-- Settles O1: the model's step is that match on the queue. -/
theorem stepRunsTheFrontCommand : Obligations.StepRunsTheFrontCommand := by
  intro s c rest h
  simp only [step, h]

theorem blank_inRange : Element.blank.inRange where
  duty := by decide
  beltRate _ := rfl
  plan h := (h rfl).elim
  rate h := (h rfl).elim

theorem reset_storeInRange : StoreInRange State.reset where
  elements e := by
    rw [State.reset, get_replicate]
    exact blank_inRange
  windows m w v h := by
    rw [State.reset, get_replicate, get_replicate] at h
    cases h
  intervalLength := by decide
  admin := ⟨0, by decide⟩

/-- A blank store has no chain (R131). -/
theorem reset_ownsChains : OwnsChains State.reset.elements State.reset.pool.alloc fun _ => [] where
  head e := by
    rw [State.reset, get_replicate]
    rfl
  linked _ ne := (ne rfl).elim
  short _ := Nat.zero_le _
  vacant _ _ := rfl
  owned b used := (used (get_replicate ..)).elim
  disjoint _ _ _ h := nomatch h

/-- Settles O3: every table of the reset state is constant, and the invariants of READY say nothing in start-up. -/
theorem resetIsABlankStoreInStartUp : Obligations.ResetIsABlankStoreInStartUp := by
  unfold Obligations.ResetIsABlankStoreInStartUp
  intro s
  have roles (p : Port) (r : Role) : s.settings.holds p r = true := by
    have role : s.settings.roles[p] = 0x1F := get_replicate ..
    rw [Settings.holds, role]
    cases r <;> rfl
  have bindings (p : Port) (m : MachineId) : s.settings.binds p m = true := by
    have binding : s.settings.bindings[p] = 0xF := get_replicate ..
    rw [Settings.binds, binding]
    revert m
    decide
  have enables (p : Port) (c : Cause) : hasCause s.settings.enables[p] c = true := by
    have enable : s.settings.enables[p] = 0x7FF := get_replicate ..
    rw [enable]
    cases c <;> rfl
  have slots (p : Port) : s.slots[p] = .empty := get_replicate ..
  have links (p : Port) : s.links[p] = Link.reset := get_replicate ..
  have attention (p : Port) : s.attention[p] = PortAttention.clear := get_replicate ..
  have queues (m : MachineId) : s.queues[m] = DueQueue.empty := get_replicate ..
  have plans (m : MachineId) : s.plans[m] = Plan.none := get_replicate ..
  have starting : s.phase ≠ .ready := nofun
  refine ⟨fun e => get_replicate .., fun b => get_replicate .., fun m w => ?_, rfl, rfl, rfl, rfl,
    fun c => get_replicate .., fun m => ⟨get_replicate .., get_replicate ..⟩, fun p r m => ⟨roles p r, bindings p m⟩,
    fun p c => ⟨get_replicate .., enables p c, get_replicate ..⟩, rfl, rfl, rfl, rfl, rfl, rfl, rfl, rfl, rfl, rfl, rfl,
    fun p => ?_, fun m => ?_, rfl, rfl, linesFollowSets_of_clear rfl, reset_storeInRange,
    fun ready => (starting ready).elim, fun ready => (starting ready).elim, fun ready => (starting ready).elim,
    reset_ownsChains.meets⟩
  · have slots : s.windows[m] = Vector.replicate 8 none := get_replicate ..
    rw [slots, get_replicate]
  · rw [slots, links, attention]
    exact ⟨rfl, rfl, rfl, rfl, rfl⟩
  · rw [queues, plans]
    exact ⟨rfl, rfl, rfl⟩

/-! ## The beginning of start-up (R181) -/

theorem exec_restart_denied {s : State} {p : Port} (ready : s.phase = .ready)
    (noAdmin : s.settings.holds p .admin = false) (payload : List Byte) :
    exec (.restart p payload) s = .next (s.answer p 0xF3#8 { status := .denied, body := [] }) := by
  rcases exec_restart_cases p payload s with ⟨_, admin, _⟩ | refused
  · cases noAdmin.symm.trans admin
  · rw [refused, takeRequest_ready ready]
    simp only [requestBlock, readOnly, noAdmin, if_true]
    rfl

theorem exec_restart_badArg {s : State} {p : Port} (ready : s.phase = .ready) (admin : s.settings.holds p .admin = true)
    (b : Byte) (rest : List Byte) :
    exec (.restart p (b :: rest)) s = .next (s.answer p 0xF3#8 { status := .badArg, body := [] }) := by
  rcases exec_restart_cases p (b :: rest) s with ⟨_, _, empty, _⟩ | refused
  · cases empty
  · rw [refused, takeRequest_ready ready]
    simp only [requestBlock, readOnly, admin, Bool.true_eq_false, if_false]
    rfl

theorem exec_restart_taken {s : State} {p : Port} (ready : s.phase = .ready)
    (admin : s.settings.holds p .admin = true) :
    exec (.restart p []) s = .next (s.beginStartUp (.port p)) := by
  change execRestart p [] s = _
  simp only [execRestart, ready, admin, noArgs, Bool.true_eq_false, if_false]

/-- Settles O50: the three origins begin start-up by the one operation. -/
theorem startUpBegins : Obligations.StartUpBegins := by
  intro s begun
  have begins (origin : RestartOrigin) : begun origin (s.beginStartUp origin) := by
    refine ⟨rfl, rfl, rfl, rfl, rfl, rfl, fun q => ?_, fun m => ?_⟩
    · have slots : (s.beginStartUp origin).slots[q] = .empty := get_replicate ..
      have attention : (s.beginStartUp origin).attention[q] = PortAttention.clear := get_replicate ..
      rw [slots, attention]
      exact ⟨rfl, rfl, rfl, fun c => get_replicate .., get_map ..⟩
    · have plans : (s.beginStartUp origin).plans[m] = Plan.none := get_replicate ..
      rw [plans]
      exact ⟨get_replicate .., rfl⟩
  exact ⟨⟨_, rfl, begins .power⟩, ⟨_, rfl, begins .line⟩, fun p ready =>
    ⟨fun admin => ⟨⟨_, exec_restart_taken ready admin, begins (.port p)⟩, exec_restart_badArg ready admin⟩,
      exec_restart_denied ready⟩⟩

/-! ## The entry into READY (R183) -/

theorem Cause.code_injective {a b : Cause} (h : a.code = b.code) : a = b := by
  cases a <;> cases b <;> simp_all [Cause.code]

theorem hasCause_mask {c d : Cause} : hasCause c.mask d = true ↔ d = c := by
  have bit : hasCause c.mask d = decide (d.code = c.code) := by
    have bound := d.code_lt
    simp only [hasCause, Cause.mask, BitVec.getLsbD_shiftLeft, BitVec.getLsbD_one]
    by_cases eq : d.code = c.code
    · simp [eq]
      omega
    · simp [eq]
      omega
  rw [bit, decide_eq_true_iff]
  exact ⟨Cause.code_injective, fun eq => eq ▸ rfl⟩

theorem hasCause_or {x y : CauseSet} {c : Cause} :
    hasCause (x ||| y) c = true ↔ hasCause x c = true ∨ hasCause y c = true := by
  simp [hasCause]

theorem hasCause_zero {c : Cause} : hasCause 0 c = false := by simp [hasCause]

/-- A raise changes nothing but the ports' records (R172). -/
theorem raiseAt_eq (at_ : Port → Bool) (c : Cause) (s : State) :
    raiseAt at_ c s = { s with attention := (raiseAt at_ c s).attention } := by
  unfold raiseAt
  split <;> rfl

theorem becomeReady_asserted {s : State} (h : s.supplyPin = .asserted) :
    s.becomeReady = raiseAt (fun _ => true) .supply (raiseAt (fun _ => true) .started s.sampled) := by
  unfold State.becomeReady
  extract_lets
  split
  · rfl
  · next low => cases h.symm.trans low

theorem becomeReady_deasserted {s : State} (h : s.supplyPin = .deasserted) :
    s.becomeReady = raiseAt (fun _ => true) .started s.sampled := by
  unfold State.becomeReady
  extract_lets
  split
  · next high => cases h.symm.trans high
  · rfl

theorem becomeReady_eq (s : State) : s.becomeReady = { s.sampled with attention := s.becomeReady.attention } := by
  have started := raiseAt_eq (fun _ => true) .started s.sampled
  cases pin : s.supplyPin with
  | asserted =>
    have supply := raiseAt_eq (fun _ => true) .supply (raiseAt (fun _ => true) .started s.sampled)
    rw [becomeReady_asserted pin]
    exact supply.trans (by rw [started])
  | deasserted =>
    rw [becomeReady_deasserted pin]
    exact started

theorem started_attention (s : State) (q : Port) :
    (raiseAt (fun _ => true) .started s.sampled).attention[q] =
      s.attention[q].raise .started s.settings.enables[q] := by
  rw [raiseAt_attention, if_pos ⟨rfl, rfl⟩]
  rfl

/-- STARTED is pending at every port, and SUPPLY when the sampled input is asserted (R183). -/
theorem becomeReady_attention (s : State) (q : Port) :
    s.becomeReady.attention[q].summaries = s.attention[q].summaries ∧
      s.becomeReady.attention[q].pending = s.attention[q].pending ||| Cause.started.mask |||
        (if s.supplyPin = .asserted then Cause.supply.mask else 0) := by
  cases pin : s.supplyPin with
  | asserted =>
    have ready : (raiseAt (fun _ => true) .started s.sampled).phase = .ready := by rw [raiseAt_eq]; rfl
    rw [becomeReady_asserted pin, raiseAt_attention, if_pos ⟨ready, rfl⟩, started_attention]
    exact ⟨rfl, rfl⟩
  | deasserted =>
    rw [becomeReady_deasserted pin, started_attention]
    exact ⟨rfl, (BitVec.or_zero (x := _)).symm⟩

/-- The state before anything is raised, field by field, behind a repair that wrote records and pool alone. -/
theorem sampled_eq_of_repaired {s r : State} (frame : r = { s with elements := r.elements, pool := r.pool }) :
    r.rebuild.resetVolatile.sampled = { s with
      elements := r.elements, pool := r.pool, bankA := Bank.zero, bankB := Bank.zero, activeBank := .a
      openInterval := nextInterval s.lastFolded, foldState := .idle, pendingTrigger := false
      timer := restartedTimer s.settings, engine := .idle, arbiter := Arbiter.reset
      slots := Vector.replicate 4 .empty, queues := r.rebuild.queues
      plans := Vector.replicate 4 Plan.none, attention := Vector.replicate 4 PortAttention.clear
      supply := s.supplyPin, phase := .ready } := by
  generalize r.elements = elements at *
  generalize r.pool = pool at *
  subst frame
  rfl

theorem moves_keep {P : State → Prop} (keeps : ∀ {s t : State}, Move s t → P s → P t) {s t : State}
    (moves : Moves s t) (hs : P s) : P t := by
  induction moves with
  | refl => exact hs
  | tail _ move ih => exact keeps move ih

/-- Settles O51: the entry is chain repair, the rebuilt queues, the reset values, and then the raises. -/
theorem enterReadySetsTheResetValues : Obligations.EnterReadySetsTheResetValues := by
  intro s starting
  have entered : exec .enterReady s = .next s.repair.rebuild.resetVolatile.becomeReady := by
    simp only [exec, execEnterReady, starting]
  obtain ⟨heads, blocks, frame⟩ := s.repair_frame
  rw [entered]
  generalize s.repair = r at *
  have raised := becomeReady_eq r.rebuild.resetVolatile
  have sampled := sampled_eq_of_repaired frame
  have moves := becomeReady_moves r.rebuild.resetVolatile
  have queues := moves_keep move_keeps_queues moves (queuesMatchRecords_entered r)
  have lines := moves_keep move_keeps_lines moves (linesFollowSets_of_clear rfl)
  have attention (q : Port) := becomeReady_attention r.rebuild.resetVolatile q
  have pin : r.supplyPin = s.supplyPin := by rw [frame]
  have cleared (q : Port) : r.rebuild.resetVolatile.attention[q] = PortAttention.clear := get_replicate ..
  rw [show r.rebuild.resetVolatile.supplyPin = s.supplyPin from pin] at attention
  generalize r.rebuild.resetVolatile.becomeReady = t at *
  rw [sampled] at raised
  have elements : t.elements = r.elements := by rw [raised]
  have pool : t.pool = r.pool := by rw [raised]
  have rebuilt : t.queues = r.rebuild.queues := by rw [raised]
  refine ⟨t, rfl, ?_, fun e => ?_, ?_, fun m => ?_, queues, fun q => ⟨fun c => ?_, fun c => ?_⟩, lines⟩
  · rw [elements, pool, rebuilt, ← nextInterval_eq]
    exact raised
  · obtain ⟨head, eq⟩ := heads e
    rw [elements, eq]
  · rw [pool, blocks]
  · rw [rebuilt, show r.rebuild.queues[m] = rebuildQueue r.elements m from get_ofFn .., rebuildQueue_eq]
  · have nothing : hasCause PortAttention.clear.pending c = false := hasCause_zero
    rw [(attention q).2, cleared, hasCause_or, hasCause_or, hasCause_mask, nothing]
    by_cases asserted : s.supplyPin = .asserted
    · rw [if_pos asserted, hasCause_mask]
      simp [asserted]
    · rw [if_neg asserted, hasCause_zero]
      simp [asserted]
  · rw [(attention q).1, cleared]
    exact get_replicate ..

end Sys2Proof.Machine

/-! # Proofs: the part's own events, slots and the clock (chapters 2, 6 and 8) -/

namespace Sys2Proof.Machine

/-! ## Where an own event does not arise (log 4) -/

section Stops

variable {s : State}

theorem replyReady_stops {p : Port} (h : ∀ reply, s.links[p].tx ≠ .preparing reply) :
    exec (.replyReady p) s = .fault .noReplyPreparing := by
  change execReplyReady p s = _
  unfold execReplyReady
  split
  · next reply preparing => exact (h reply preparing).elim
  · rfl

theorem intervalTimerExpiry_stops (h : ∀ n, s.timer ≠ .running n) :
    exec .intervalTimerExpiry s = .fault .timerNotRunning := by
  change execIntervalTimerExpiry s = _
  unfold execIntervalTimerExpiry
  split
  · next n running => exact (h n running).elim
  · rfl

theorem enterReady_stops (h : s.phase = .ready) : exec .enterReady s = .fault .notInStartUp := by
  change execEnterReady s = _
  simp only [execEnterReady, h]

theorem elementStep_stops (h : ∀ run e, s.engine = .fold run → run.stage ≠ .step e) :
    exec .elementStep s = .fault .noElementStep := by
  change execElementStep s = _
  unfold execElementStep
  split
  · next run engine =>
    split
    · next e stage => exact (h run e engine stage).elim
    · rfl
  · rfl

theorem completionStage_out_of_turn {stage : FoldStage} (act : FoldRun → State → State)
    (h : ∀ run, s.engine = .fold run → run.stage ≠ stage) :
    completionStage stage act s = .fault .stageOutOfTurn := by
  unfold completionStage
  split
  · next run engine => rw [if_neg (h run engine)]
  · rfl

theorem planBuildCompletion_stops (h : ∀ p run copy, s.engine = .build p run → s.slots[p] ≠ .running copy) :
    exec .planBuildCompletion s = .fault .noPlanBuild := by
  change execPlanBuildCompletion s = _
  unfold execPlanBuildCompletion
  split
  · next p run engine =>
    split
    · next copy slot => exact (h p run copy engine slot).elim
    · rfl
  · rfl

theorem historyReadCompletion_stops
    (h : ∀ p copy e skip, s.engine = .lookup p → s.slots[p] = .running copy → copy.request ≠ .historyRead e skip) :
    exec .historyReadCompletion s = .fault .noHistoryRead := by
  change execHistoryReadCompletion s = _
  unfold execHistoryReadCompletion
  split
  · next p engine =>
    split
    · next copy slot =>
      split
      · next e skip request => exact (h p copy e skip engine slot request).elim
      · rfl
    · rfl
  · rfl

theorem elementFindCompletion_stops
    (h : ∀ p copy selector flags start, s.engine = .lookup p → s.slots[p] = .running copy →
      copy.request ≠ .elementFind selector flags start) :
    exec .elementFindCompletion s = .fault .noElementFind := by
  change execElementFindCompletion s = _
  unfold execElementFindCompletion
  split
  · next p engine =>
    split
    · next copy slot =>
      split
      · next selector flags start request => exact (h p copy selector flags start engine slot request).elim
      · rfl
    · rfl
  · rfl

theorem discardTimerExpiry_stops {p : Port} (h : ∀ copy result n, s.slots[p] ≠ .ready copy result n) :
    exec (.discardTimerExpiry p) s = .fault .noHeldResult := by
  change execDiscardTimerExpiry p s = _
  unfold execDiscardTimerExpiry
  split
  · next copy result n slot => exact (h copy result n slot).elim
  · rfl

end Stops

/-- Settles O54, row by row. -/
theorem ownEventsStopWhereTheyDoNotArise : Obligations.OwnEventsStopWhereTheyDoNotArise := by
  intro s
  refine ⟨fun p => replyReady_stops, intervalTimerExpiry_stops, enterReady_stops, elementStep_stops, fun x hx h => ?_,
    planBuildCompletion_stops, historyReadCompletion_stops, elementFindCompletion_stops,
    fun p => discardTimerExpiry_stops⟩
  simp only [List.mem_cons, List.not_mem_nil, or_false] at hx
  rcases hx with rfl | rfl | rfl | rfl | rfl <;> exact completionStage_out_of_turn _ h

/-! ## Completions of a slot's operation (R114, R141, R149, R154) -/

theorem DiscardTime.ticks_eq (d : DiscardTime) : d.ticks = match d with | .short => 1 | .long => 32 := by
  cases d <;> rfl

/-- Settles O34: the build's plan is the placement of its snapshot, and its slot completes. -/
theorem planBuildInstallsItsPlan : Obligations.PlanBuildInstallsItsPlan := by
  intro s p run copy engine slot placed st plan installed told
  have executed : exec .planBuildCompletion s = .next ((installPlan run s).complete p copy run.plan.result) := by
    change execPlanBuildCompletion s = _
    simp only [execPlanBuildCompletion, engine, slot]
  have told_eq : installPlan run s = told := rfl
  have slots : told.slots = s.slots := by
    simp only [told]
    split
    · rw [raiseAt_eq]
    · rfl
  have settings : told.settings = s.settings := by
    simp only [told]
    split
    · rw [raiseAt_eq]
    · rfl
  rw [executed, told_eq, State.complete, DiscardTime.ticks_eq, slots, settings]
  rfl

theorem HitFlag.exists_bit (i : Fin 5) : ∃ f : HitFlag, f.bit = i.val := by
  have listed : ∀ i : Fin 5, ∃ f ∈ hitFlags, f.bit = i.val := by decide
  obtain ⟨f, _, hf⟩ := listed i
  exact ⟨f, hf⟩

/-- Two flag sets share a bit exactly when they share a flag (R170). -/
theorem flags_and_ne_zero_iff {x y : FlagSet} :
    x &&& y ≠ 0 ↔ ∃ f : HitFlag, hasFlag x f = true ∧ hasFlag y f = true := by
  have both (f : HitFlag) : hasFlag x f = true ∧ hasFlag y f = true ↔ (x &&& y).getLsbD f.bit = true := by
    simp only [hasFlag, BitVec.getLsbD_and, Bool.and_eq_true]
  simp only [both]
  constructor
  · intro shared
    by_contra none
    refine shared (BitVec.eq_of_getLsbD_eq fun i hi => ?_)
    obtain ⟨f, hf⟩ := HitFlag.exists_bit ⟨i, hi⟩
    have clear : ¬ (x &&& y).getLsbD f.bit = true := fun h => none ⟨f, h⟩
    rw [hf] at clear
    simpa using clear
  · rintro ⟨f, hf⟩ zero
    rw [zero] at hf
    simp at hf

theorem mem_allMatches {elements : Vector Element 512} {selector : Option MachineId} {flags : FlagSet}
    {start : Option ElementIx} {e : ElementIx} :
    e ∈ allMatches elements selector flags start ↔
      elements[e].state ≠ .vacant ∧ (∀ m, selector = some m → elements[e].machine = m) ∧
        (∃ f : HitFlag, hasFlag elements[e].flags f = true ∧ hasFlag flags f = true) ∧
        (∀ i, start = some i → i < e) := by
  rw [← flags_and_ne_zero_iff, allMatches, List.mem_filter]
  cases selector <;> cases start <;> simp [findMatches, and_assoc]

theorem readHead_eq (r : Element) : r.readHead = if r.state = .vacant then none else r.head := by
  cases h : r.state <;> simp [Element.readHead, h]

/-- Settles O30: each completion answers from the state as it stands, and the expiry empties its slot. -/
theorem lookupsCompleteAndResultsExpire : Obligations.LookupsCompleteAndResultsExpire := by
  intro s p time completed
  have ticks : s.settings.discardTimes[p].ticks = time := DiscardTime.ticks_eq _
  have completes (copy : RequestCopy) (result : LongResult) : s.complete p copy result = completed copy result := by
    simp only [State.complete, ticks, completed]
  refine ⟨fun copy e skip engine slot request => ?_, fun copy selector flags start engine slot request => ?_,
    fun copy result n slot => ?_⟩
  · extract_lets r head records
    have executed : exec .historyReadCompletion s = .next (s.complete p copy (historyResult e skip s)) := by
      change execHistoryReadCompletion s = _
      simp only [execHistoryReadCompletion, engine, slot, request]
    rw [executed, completes]
    simp only [historyResult, readHead_eq]
    rfl
  · refine ⟨allMatches s.elements selector flags start, ?_, fun e => mem_allMatches, ?_⟩
    · exact (List.pairwise_lt_finRange 512).filter _
    · have executed : exec .elementFindCompletion s =
          .next (s.complete p copy (findResult selector flags start s)) := by
        change execElementFindCompletion s = _
        simp only [execElementFindCompletion, engine, slot, request]
      rw [executed, completes]
      rfl
  · change execDiscardTimerExpiry p s = _
    simp only [execDiscardTimerExpiry, slot]
    rfl

/-! ## PORT_RESET (R152, R168, R177) -/

/-- Settles O40: the slot's own occupation of the engine decides whether it is released. -/
theorem portResetCleansItsPort : Obligations.PortResetCleansItsPort := by
  intro s p ready emptied cleared found
  have code : s.slots[p].code = found := by
    simp only [found]
    cases s.slots[p] <;> rfl
  have executed : exec (.portReset p []) s =
      .next ((cleared (s.resetSlot p)).answer p 0xE0#8 { status := .ok, body := [found] }) := by
    rw [← code]
    exact takeRequest_ready ready ..
  refine ⟨fun other => ?_, fun own => ?_, fun b rest => takeRequest_ready ready ..⟩
  · rcases resetSlot_cases s p with ⟨reset, _⟩ | ⟨_, lookup | ⟨run, build⟩⟩
    · rw [executed, reset]
      rfl
    · exact (other (by rw [lookup]; rfl)).elim
    · exact (other (by rw [build]; rfl)).elim
  · rcases resetSlot_cases s p with ⟨_, notLookup, notBuild⟩ | ⟨reset, _⟩
    · cases engine : s.engine with
      | idle => rw [engine] at own; cases own
      | fold run => rw [engine] at own; cases own
      | build q run =>
        rw [engine] at own
        cases own
        exact (notBuild run engine).elim
      | lookup q =>
        rw [engine] at own
        cases own
        exact (notLookup engine).elim
    · rw [executed, reset]
      rfl

/-! ## The clock (log 3, log 13) -/

/-- What half a second makes of a slot (R151). -/
def Slot.ticked : Slot → Slot
  | .ready copy result n => if 1 < n then .ready copy result (n - 1) else .empty
  | other => other

/-- A held result whose time ends within half a second. -/
def Slot.expires : Slot → Bool
  | .ready _ _ n => n ≤ 1
  | _ => false

/-- What half a second makes of the record of a port with a given slot (R151). -/
def PortAttention.ticked (a : PortAttention) (slot : Slot) (enable : CauseSet) : PortAttention :=
  if slot.expires then a.raise .discard enable else a

theorem PortAttention.ticked_kept {a : PortAttention} {slot : Slot} {enable : CauseSet} (h : slot.expires = false) :
    a.ticked slot enable = a := by
  rw [PortAttention.ticked, h]
  rfl

theorem PortAttention.ticked_discarded {a : PortAttention} {slot : Slot} {enable : CauseSet}
    (h : slot.expires = true) : a.ticked slot enable = a.raise .discard enable := by
  rw [PortAttention.ticked, h]
  rfl

section Ticked

variable {slot : Slot}

theorem ticked_running {c : RequestCopy} {r : LongResult} {n : Nat} (hn : 1 < n) :
    (Slot.ready c r n).ticked = .ready c r (n - 1) ∧ (Slot.ready c r n).expires = false := by
  simp [Slot.ticked, Slot.expires, hn]

theorem ticked_ended {c : RequestCopy} {r : LongResult} {n : Nat} (hn : n ≤ 1) :
    (Slot.ready c r n).ticked = .empty ∧ (Slot.ready c r n).expires = true := by
  simp [Slot.ticked, Slot.expires, hn]

theorem ticked_untimed (h : ∀ c r n, slot ≠ .ready c r n) : slot.ticked = slot ∧ slot.expires = false := by
  cases slot with
  | ready c r n => exact (h c r n rfl).elim
  | empty | waiting | running => exact ⟨rfl, rfl⟩

end Ticked

/-- A state in which the slots of some ports, and their records, have seen half a second pass, and nothing else. -/
structure TickedAt (done : Port → Prop) (s t : State) : Prop where
  rest : t = { s with slots := t.slots, attention := t.attention }
  timed : ∀ p : Port, done p → t.slots[p] = s.slots[p].ticked ∧
    t.attention[p] = s.attention[p].ticked s.slots[p] s.settings.enables[p]
  others : ∀ p : Port, ¬ done p → t.slots[p] = s.slots[p] ∧ t.attention[p] = s.attention[p]

theorem tickSlot_tickedAt {s : State} (ready : s.phase = .ready) (p : Port) : TickedAt (· = p) s (s.tickSlot p) := by
  have others {slot : Slot} (q : Port) (other : ¬ q = p) : (s.slots.set p slot)[q] = s.slots[q] :=
    get_set_other _ _ (Ne.symm other)
  rcases tickSlot_cases s p with ⟨c, r, n, slot, hn, tick⟩ | ⟨c, r, n, slot, hn, tick⟩ | ⟨untimed, tick⟩
  · obtain ⟨after, expires⟩ := ticked_running (c := c) (r := r) hn
    rw [tick]
    refine ⟨rfl, ?_, fun q other => ⟨others q other, rfl⟩⟩
    rintro q rfl
    exact ⟨by rw [get_set_same, slot, after], (PortAttention.ticked_kept (slot ▸ expires)).symm⟩
  · obtain ⟨after, expires⟩ := ticked_ended (c := c) (r := r) hn
    have discarded := raiseAt_eq (fun q => q = p) .discard { s with slots := s.slots.set p .empty }
    have attention (q : Port) := raiseAt_attention (fun q => q = p) .discard { s with slots := s.slots.set p .empty } q
    have slots : (s.discardResult p).slots = s.slots.set p .empty := by
      rw [State.discardResult, raiseAt_eq]
    rw [tick]
    refine ⟨?_, ?_, fun q other => ⟨?_, ?_⟩⟩
    · rw [slots]
      exact discarded
    · rintro q rfl
      refine ⟨by rw [slots, get_set_same, slot, after], ?_⟩
      rw [State.discardResult, attention, PortAttention.ticked_discarded (slot ▸ expires),
        if_pos ⟨ready, by simp⟩]
    · rw [slots]
      exact others q other
    · rw [State.discardResult, attention]
      simp [other]
  · obtain ⟨after, expires⟩ := ticked_untimed untimed
    rw [tick]
    refine ⟨rfl, ?_, fun q _ => ⟨rfl, rfl⟩⟩
    rintro q rfl
    exact ⟨after.symm, (PortAttention.ticked_kept expires).symm⟩

theorem tickSlots_tickedAt {l : List Port} (distinct : l.Nodup) {s : State} (ready : s.phase = .ready) :
    TickedAt (· ∈ l) s (l.foldl State.tickSlot s) := by
  induction l generalizing s with
  | nil => exact ⟨rfl, fun p none => (List.not_mem_nil none).elim, fun p _ => ⟨rfl, rfl⟩⟩
  | cons p rest ih =>
    obtain ⟨notAgain, distinct⟩ := List.nodup_cons.1 distinct
    have first := tickSlot_tickedAt ready p
    have settings : (s.tickSlot p).settings = s.settings := by rw [first.rest]
    have later := ih distinct (s := s.tickSlot p) (by rw [first.rest]; exact ready)
    rw [List.foldl_cons]
    generalize List.foldl State.tickSlot (s.tickSlot p) rest = t at later
    refine ⟨?_, fun q hq => ?_, fun q hq => ?_⟩
    · rw [later.rest, first.rest]
    · rcases List.mem_cons.1 hq with rfl | hq
      · obtain ⟨slots, attention⟩ := later.others q notAgain
        rw [slots, attention]
        exact first.timed q rfl
      · obtain ⟨slots, attention⟩ := later.timed q hq
        obtain ⟨slots', attention'⟩ := first.others q fun eq => notAgain (eq ▸ hq)
        rw [slots, attention, slots', attention', settings]
        exact ⟨rfl, rfl⟩
    · obtain ⟨notFirst, notLater⟩ := not_or.1 (mt List.mem_cons.2 hq)
      obtain ⟨slots, attention⟩ := later.others q notLater
      obtain ⟨slots', attention'⟩ := first.others q notFirst
      exact ⟨slots.trans slots', attention.trans attention'⟩

/-- The beginning of an operation holds no result and drops none (R148). -/
theorem begin_slot_ready {s : State} {q : Requester} {p : Port} {c : RequestCopy} {r : LongResult} {n : Nat} :
    (s.begin q).slots[p] = .ready c r n ↔ s.slots[p] = .ready c r n := by
  cases q with
  | fold =>
    cases fold : s.foldState with
    | foldWait i => rw [begin_fold fold]
    | idle | folding => simp only [State.begin, fold]
  | slot q =>
    cases slot : s.slots[q] with
    | waiting copy =>
      rw [begin_slot slot, get_set]
      split
      · next eq => exact iff_of_false nofun (by rw [← eq, slot]; exact nofun)
      · rfl
    | empty | running | ready => simp only [State.begin, slot]

theorem grant_slot_ready {s : State} {p : Port} {c : RequestCopy} {r : LongResult} {n : Nat} :
    s.grant.slots[p] = .ready c r n ↔ s.slots[p] = .ready c r n := by
  rcases grant_cases s with ⟨q, high, low, _, _, _, granted⟩ | ⟨granted, _⟩ <;> rw [granted]
  exact begin_slot_ready

theorem expireInterval_slot_ready {s : State} {p : Port} {c : RequestCopy} {r : LongResult} {n : Nat} :
    s.expireInterval.slots[p] = .ready c r n ↔ s.slots[p] = .ready c r n := by
  rcases expireInterval_cases s with ⟨_, expired⟩ | ⟨_, expired⟩ <;> rw [expired]
  rw [swap_eq, grant_slot_ready]
  rfl

theorem tickInterval_slot_ready {s : State} {p : Port} {c : RequestCopy} {r : LongResult} {n : Nat} :
    s.tickInterval.slots[p] = .ready c r n ↔ s.slots[p] = .ready c r n := by
  unfold State.tickInterval
  split
  · split
    · rfl
    · exact expireInterval_slot_ready
  · rfl

theorem tickInterval_frame (s : State) :
    s.tickInterval.phase = s.phase ∧ s.tickInterval.settings = s.settings ∧
      s.tickInterval.attention = s.attention := by
  unfold State.tickInterval
  split
  · split
    · exact ⟨rfl, rfl, rfl⟩
    · simp
  · exact ⟨rfl, rfl, rfl⟩

/-- Half a second in READY: the Interval Timer, then every slot. -/
theorem tick_tickedAt {s : State} (ready : s.phase = .ready) : TickedAt (fun _ => True) s.tickInterval s.tick := by
  have all := tickSlots_tickedAt (List.nodup_finRange 4) (s := s.tickInterval)
    ((tickInterval_frame s).1.trans ready)
  have tick : s.tick = (List.finRange 4).foldl State.tickSlot s.tickInterval := by simp only [State.tick, ready]
  rw [tick]
  exact ⟨all.rest, fun p _ => all.timed p (List.mem_finRange p), fun p no => (no trivial).elim⟩

/-- Where no result is held, half a second is one of the Interval Timer. -/
theorem tick_eq_tickInterval {s : State} (ready : s.phase = .ready)
    (untimed : ∀ (p : Port) c r n, s.slots[p] ≠ .ready c r n) : s.tick = s.tickInterval := by
  obtain ⟨rest, timed, _⟩ := tick_tickedAt ready
  have same (p : Port) := ticked_untimed (slot := s.tickInterval.slots[p]) fun c r n slot =>
    untimed p c r n (tickInterval_slot_ready.1 slot)
  have slots : s.tick.slots = s.tickInterval.slots := table_ext fun p => by
    rw [(timed p trivial).1, (same p).1]
  have attention : s.tick.attention = s.tickInterval.attention := table_ext fun p => by
    rw [(timed p trivial).2, PortAttention.ticked_kept (same p).2]
  rw [rest, slots, attention]

theorem tickInterval_stopped {s : State} (h : ∀ n, s.timer ≠ .running n) : s.tickInterval = s := by
  unfold State.tickInterval
  split
  · next n timer => exact (h n timer).elim
  · rfl

/-- The Interval Timer after half a second in which it does not expire (R34). -/
def IntervalTimer.ticked : IntervalTimer → IntervalTimer
  | .running n => .running (n - 1)
  | other => other

theorem tickInterval_running {s : State} (h : ∀ n, s.timer = .running n → 1 < n) :
    s.tickInterval = { s with timer := s.timer.ticked } := by
  have still (same : s.timer.ticked = s.timer) (stopped : ∀ n, s.timer ≠ .running n) :
      s.tickInterval = { s with timer := s.timer.ticked } := by
    rw [same]
    exact tickInterval_stopped stopped
  cases timer : s.timer with
  | running n => simp only [State.tickInterval, timer, if_pos (h n timer), IntervalTimer.ticked]
  | stopped | expired => exact timer ▸ still (by rw [timer]; rfl) (by rw [timer]; exact nofun)

theorem tickInterval_ended {s : State} {n : Nat} (timer : s.timer = .running n) (hn : n ≤ 1) :
    s.tickInterval = s.expireInterval := by
  simp only [State.tickInterval, timer, if_neg (Nat.not_lt.2 hn)]

/-- Settles O2: every clause reads the Interval Timer's half second and then each slot's. -/
theorem emptyQueueStepIsHalfASecond : Obligations.EmptyQueueStepIsHalfASecond := by
  intro s empty
  have stepped : step s = .next s.tick := by simp only [step, empty]
  rw [stepped]
  refine ⟨fun starting => ?_, fun ready timer held => ?_, fun ready ⟨n, timer, hn⟩ untimed => ?_,
    fun p ready timer ⟨c, r, n, slot, hn⟩ others => ?_, fun ready => ?_⟩
  · simp only [State.tick, starting]
  · obtain ⟨rest, timed, _⟩ := tick_tickedAt ready
    rw [tickInterval_running timer] at rest timed
    have live (p : Port) : s.slots[p].ticked =
        (match s.slots[p] with | .ready c r n => .ready c r (n - 1) | other => other) ∧
          s.slots[p].expires = false := by
      cases slot : s.slots[p] with
      | ready c r n => exact ticked_running (held p c r n slot)
      | empty | waiting | running => exact ⟨rfl, rfl⟩
    have slots : s.tick.slots =
        s.slots.map fun slot => match slot with | .ready c r n => .ready c r (n - 1) | other => other :=
      table_ext fun p => by
        rw [(timed p trivial).1, get_map]
        exact (live p).1
    have attention : s.tick.attention = s.attention := table_ext fun p => by
      rw [(timed p trivial).2]
      exact PortAttention.ticked_kept (live p).2
    rw [rest, slots, attention]
    rfl
  · rw [tick_eq_tickInterval ready untimed, tickInterval_ended timer hn]
  · obtain ⟨rest, timed, _⟩ := tick_tickedAt ready
    rw [tickInterval_stopped timer] at rest timed
    obtain ⟨after, expires⟩ := ticked_ended (c := c) (r := r) hn
    have discarded := raiseAt_eq (fun q => q = p) .discard { s with slots := s.slots.set p .empty }
    have slots : s.tick.slots = s.slots.set p .empty := table_ext fun q => by
      rw [(timed q trivial).1, get_set]
      by_cases eq : p = q
      · rw [if_pos eq, ← eq, slot, after]
      · rw [if_neg eq, (ticked_untimed fun c r n => others q c r n (Ne.symm eq)).1]
    have attention : s.tick.attention =
        (raiseAt (fun q => q = p) .discard { s with slots := s.slots.set p .empty }).attention := table_ext fun q => by
      rw [(timed q trivial).2, raiseAt_attention]
      by_cases eq : q = p
      · rw [if_pos ⟨ready, by simp [eq]⟩, PortAttention.ticked_discarded (by rw [eq, slot, expires])]
      · rw [if_neg (by simp [eq]), PortAttention.ticked_kept (ticked_untimed fun c r n => others q c r n eq).2]
    rw [rest, discarded, slots, attention]
  · intro counted
    have counted_eq : s.tickInterval = counted := by
      simp only [counted]
      cases timer : s.timer with
      | running n =>
        by_cases hn : 1 < n
        · simp only [if_pos hn, State.tickInterval, timer]
        · simp only [if_neg hn]
          rw [tickInterval_ended timer (Nat.not_lt.1 hn)]
          by_cases idle : s.foldState = .idle
          · rw [if_pos idle, expireInterval_in_idle idle]
          · rw [if_neg idle, expireInterval_outside_idle idle]
      | stopped | expired => exact tickInterval_stopped (by rw [timer]; exact nofun)
    obtain ⟨_, settings, attention⟩ := tickInterval_frame s
    obtain ⟨rest, timed, _⟩ := tick_tickedAt ready
    have ready_iff {p : Port} {c r n} := tickInterval_slot_ready (s := s) (p := p) (c := c) (r := r) (n := n)
    rw [counted_eq] at rest timed settings attention ready_iff
    simp only [attention, settings] at timed
    refine ⟨s.tick, rfl, rest, fun p => ⟨fun c r n slot hn => ?_, fun c r n slot hn => ?_, fun untimed => ?_⟩⟩
    · obtain ⟨after, expires⟩ := ticked_running (c := c) (r := r) hn
      have held := ready_iff.2 slot
      exact ⟨by rw [(timed p trivial).1, held, after],
        (timed p trivial).2.trans (PortAttention.ticked_kept (held ▸ expires))⟩
    · obtain ⟨after, expires⟩ := ticked_ended (c := c) (r := r) hn
      have held := ready_iff.2 slot
      refine ⟨by rw [(timed p trivial).1, held, after], ?_⟩
      rw [(timed p trivial).2, PortAttention.ticked_discarded (held ▸ expires), raiseAt_attention,
        if_pos ⟨ready, by simp⟩]
    · obtain ⟨after, expires⟩ := ticked_untimed (slot := counted.slots[p]) fun c r n slot =>
        untimed c r n (ready_iff.1 slot)
      exact ⟨(timed p trivial).1.trans after, (timed p trivial).2.trans (PortAttention.ticked_kept expires)⟩

end Sys2Proof.Machine

/-! # Proofs: reports, modes and the wear arithmetic (chapters 2 and 3) -/

namespace Sys2Proof.Machine

/-! ## Reports (R23, R25) -/

/-- Settles O13: `satHalf` stores the true sum below the cap, and the cap otherwise. -/
theorem runReportAddsToTheActiveBank : Obligations.RunReportAddsToTheActiveBank := by
  intro s p payload m seconds h hargs before total
  have stored : satHalf total = BitVec.ofNat 16 (if 65535 < total then 65535 else total) := by
    rw [satHalf, Nat.min_def]
    split_ifs with below above above
    · have : Config.maxHalf = 65535 := rfl
      omega
    · rfl
    · rfl
    · have : Config.maxHalf = 65535 := rfl
      omega
  have clips : saturates before.runTime seconds = decide (65535 < total) := rfl
  have flag : boolByte (saturates before.runTime seconds) = if 65535 < total then 1#8 else 0#8 := by
    rw [clips]
    by_cases above : 65535 < total <;> simp [above, boolByte]
  change takeRequest p .runReport (reportChecks p (runArgs payload) runReport) s = _
  rw [takeRequest_ready h.ready, hargs, reportChecks_of_takesReport h]
  simp only [runReport, MachineTally.run, State.writeActive]
  rw [flag, ← stored]
  rfl

section ReportChecks

variable {α : Type} {s : State} {p : Port} {args : Option (MachineId × α)}
  {act : MachineId → α → State → State × Answer}

theorem reportChecks_denied (h : s.settings.holds p .report = false) :
    reportChecks p args act s = (s, refuse .denied) := if_pos h

theorem reportChecks_badArg (h : s.settings.holds p .report = true) (none : args = .none) :
    reportChecks p args act s = (s, refuse .badArg) := by
  simp only [reportChecks, h, none, Bool.true_eq_false, if_false]

theorem reportChecks_unbound {m : MachineId} {a : α} (h : s.settings.holds p .report = true)
    (some : args = .some (m, a)) (unbound : s.settings.binds p m = false) :
    reportChecks p args act s = (s, refuse .denied) := by
  simp only [reportChecks, h, some, unbound, Bool.true_eq_false, if_false, if_true]

theorem reportChecks_held {m : MachineId} {a : α} (h : s.settings.holds p .report = true)
    (some : args = .some (m, a)) (bound : s.settings.binds p m = true) (held : s.reportsHeld = true) :
    reportChecks p args act s = (s, refuse .held) := by
  simp only [reportChecks, h, some, bound, held, Bool.true_eq_false, if_false, if_true]

end ReportChecks

/-- Both reports pass through the checks of Table 2-3, which refuse in order. -/
theorem reports_refused {α : Type} {s : State} {p : Port} (ready : s.phase = .ready) (k : RequestKind)
    (args : Option (MachineId × α)) (act : MachineId → α → State → State × Answer) :
    let refused (st : Status) := takeRequest p k (reportChecks p args act) s =
      .next (s.answer p (replyKind k) { status := st, body := [] })
    (s.settings.holds p .report = false → refused .denied) ∧
    (s.settings.holds p .report = true →
      ((args.map fun a => a.1) = none → refused .badArg) ∧
      ∀ m, (args.map fun a => a.1) = some m →
        (s.settings.binds p m = false → refused .denied) ∧
        (s.settings.binds p m = true → s.settings.supplyPolicy = .freeze → s.supply = .asserted →
          refused .held)) := by
  intro refused
  have refuses {st : Status} (h : reportChecks p args act s = (s, refuse st)) : refused st := by
    simp only [refused]
    rw [takeRequest_ready ready, h]
    rfl
  refine ⟨fun noRole => refuses (reportChecks_denied noRole), fun role => ⟨fun none => ?_, fun m some => ?_⟩⟩
  · exact refuses (reportChecks_badArg role (Option.map_eq_none_iff.1 none))
  · obtain ⟨⟨_, a⟩, hargs, rfl⟩ := Option.map_eq_some_iff.1 some
    refine ⟨fun unbound => refuses (reportChecks_unbound role hargs unbound), fun bound freeze asserted => ?_⟩
    exact refuses (reportChecks_held role hargs bound (by simp [State.reportsHeld, freeze, asserted]))

/-- Settles O14: each report's arguments begin with its machine. -/
theorem reportsAreRefusedInOrder : Obligations.ReportsAreRefusedInOrder := by
  intro s p payload ready x hx
  simp only [List.mem_cons, List.not_mem_nil, or_false] at hx
  rcases hx with rfl | rfl
  · exact reports_refused ready .passReport (passArgs payload) passReport
  · exact reports_refused ready .runReport (runArgs payload) runReport

/-! ## Machine modes (R56) -/

/-- Settles O17: the checks of R56 in their order. -/
theorem modeSetStoresTheMode : Obligations.ModeSetStoresTheMode := by
  intro s p payload ready refused
  have executed : exec (.modeSet p payload) s =
      .next ((modeSet p payload s).1.answer p 0xB0#8 (modeSet p payload s).2) := takeRequest_ready ready ..
  have refuses {st : Status} (h : modeSet p payload s = (s, refuse st)) : refused st := by
    simp only [refused]
    rw [executed, h]
    rfl
  refine ⟨fun noRole => refuses (if_pos noRole), fun role => ⟨fun none => ?_, fun m mode some =>
    ⟨fun unbound => ?_, fun bound => ?_⟩⟩⟩
  · exact refuses (by simp only [modeSet, role, none, Bool.true_eq_false, if_false])
  · exact refuses (by simp only [modeSet, role, some, unbound, Bool.true_eq_false, if_false, if_true])
  · rw [executed]
    simp only [modeSet, role, some, bound, Bool.true_eq_false, if_false]
    cases mode <;> cases s.foldState <;> rfl

/-! ## Stages 1 to 4 (R45 to R49) -/

theorem rawFigure_eq (cells : Vector Half 8) (weights : Vector Byte 8) :
    rawFigure cells weights = cells[0].toNat * weights[0].toNat + cells[1].toNat * weights[1].toNat +
      cells[2].toNat * weights[2].toNat + cells[3].toNat * weights[3].toNat + cells[4].toNat * weights[4].toNat +
      cells[5].toNat * weights[5].toNat + cells[6].toNat * weights[6].toNat + cells[7].toNat * weights[7].toNat := by
  simp [rawFigure, List.finRange_succ]
  omega

theorem cell_le (cell : Half) (weight : Byte) : cell.toNat * weight.toNat ≤ 16711425 :=
  Nat.mul_le_mul (Nat.le_of_lt_succ cell.isLt) (Nat.le_of_lt_succ weight.isLt)

theorem rawFigure_le (cells : Vector Half 8) (weights : Vector Byte 8) : rawFigure cells weights ≤ 133691400 := by
  have bound : ((List.finRange 8).map fun c => cells[c].toNat * weights[c].toNat).sum ≤
      ((List.finRange 8).map fun c => cells[c].toNat * weights[c].toNat).length • 16711425 :=
    List.sum_le_card_nsmul _ _ fun x hx => by
      obtain ⟨c, _, rfl⟩ := List.mem_map.1 hx
      exact cell_le _ _
  simpa [rawFigure] using bound

section Reckon

variable {r : Element} {zone : ZoneTally} {runTime : Half} {weights : Vector Byte 8} {shift : Fin 8} {i : Interval}

/-- A crediting step: the element's tenancy began by the interval (R48). -/
theorem reckon_credited (h : r.start ≤ i) :
    (reckon r zone runTime weights shift i).wear =
        satWord (r.wear.toNat + numerator (rawFigure zone.cells weights) runTime r / 16) ∧
      (reckon r zone runTime weights shift i).residue =
        newResidue (numerator (rawFigure zone.cells weights) runTime r) := by
  simp [reckon, h, increment]

theorem reckon_rateOnly (h : ¬ r.start ≤ i) :
    (reckon r zone runTime weights shift i).wear = r.wear ∧
      (reckon r zone runTime weights shift i).residue = r.residue := by
  simp [reckon, h]

end Reckon

/-- Settles O19: the numerator is sixteen increments and the new residue. -/
theorem wearIsCreditedExactly : Obligations.WearIsCreditedExactly := by
  intro r zone runTime weights shift i raw work inc after
  have num : numerator raw runTime r = work + r.residue.val := rfl
  have residue : (newResidue (numerator raw runTime r)).val = (work + r.residue.val) % 16 := rfl
  have bound : raw ≤ 133691400 := rawFigure_le ..
  refine ⟨rawFigure_eq .., bound, fun duty => ?_, fun credits fits => ?_, fun credits above => ?_, fun later => ?_, rfl,
    rfl⟩
  · have passage : raw * r.duty.toNat ≤ 133691400 * 64 := Nat.mul_le_mul bound duty
    have running := cell_le runTime r.beltRate
    have small := r.residue.isLt
    omega
  · obtain ⟨wear, newRes⟩ := reckon_credited (zone := zone) (runTime := runTime) (weights := weights) (shift := shift)
      credits
    have after_wear : after.wear.toNat = r.wear.toNat + inc := by
      rw [show after.wear = _ from wear, satWord_toNat]
      exact Nat.min_eq_left fits
    refine ⟨after_wear, ?_⟩
    rw [after_wear, show after.residue = _ from newRes, residue]
    omega
  · obtain ⟨wear, newRes⟩ := reckon_credited (zone := zone) (runTime := runTime) (weights := weights) (shift := shift)
      credits
    refine ⟨?_, by rw [show after.residue = _ from newRes, residue]⟩
    rw [show after.wear = _ from wear, satWord_toNat]
    exact Nat.min_eq_right above.le
  · exact reckon_rateOnly (BitVec.not_le.2 later)

/-! ## Stage 5 (R50) -/

/-- The floor of a negative quotient is the ceiling of its magnitude, negated. -/
theorem neg_ediv_eq_neg_ceil (a : Nat) {d : Nat} (hd : 0 < d) :
    (-(a : Int)) / (d : Int) = -(((a + (d - 1)) / d : Nat) : Int) := by
  have pos : (0 : Int) < d := by exact_mod_cast hd
  have split := Nat.div_add_mod (a + (d - 1)) d
  have small := Nat.mod_lt (a + (d - 1)) hd
  generalize (a + (d - 1)) / d = c at *
  generalize (a + (d - 1)) % d = m at *
  have whole : (d : Int) * c + m = a + (d - 1) := by
    have cast := congrArg (Nat.cast (R := Int)) split
    push_cast [Nat.cast_sub hd] at cast
    exact cast
  have rest : (m : Int) < d := by exact_mod_cast small
  have nonneg : (0 : Int) ≤ m := Int.natCast_nonneg m
  refine le_antisymm (Int.lt_add_one_iff.1 ((Int.ediv_lt_iff_lt_mul pos).2 ?_)) ((Int.le_ediv_iff_mul_le pos).2 ?_)
  · linarith [mul_comm (d : Int) c, add_mul (-(c : Int)) 1 d, neg_mul (c : Int) d]
  · linarith [mul_comm (d : Int) c, neg_mul (c : Int) d]

/-- The target of stage 5: the increment times 256, capped (R50). -/
def rateTarget (inc : Nat) : Nat := min (inc * 256) 4294967295

theorem smooth_toNat (rate : Word) (inc : Nat) (shift : Fin 8) {after : Nat} (fits : after ≤ 4294967295)
    (value : (rate.toNat : Int) + ((rateTarget inc : Int) - rate.toNat) / ((2 ^ shift.val : Nat) : Int) = after) :
    (smooth rate inc shift).toNat = after := by
  have target : min ((inc : Int) * 256) (Config.maxWord : Int) = (rateTarget inc : Int) := by
    rw [rateTarget]
    push_cast
    rfl
  have bound : after < 2 ^ 32 := by omega
  push_cast at value
  simp only [smooth, target, value, Int.toNat_natCast, BitVec.toNat_ofNat, Nat.mod_eq_of_lt bound]

theorem smooth_up {rate : Word} {inc : Nat} (shift : Fin 8) (h : rate.toNat ≤ rateTarget inc) :
    (smooth rate inc shift).toNat = rate.toNat + (rateTarget inc - rate.toNat) / 2 ^ shift.val ∧
      rate.toNat + (rateTarget inc - rate.toNat) / 2 ^ shift.val ≤ rateTarget inc := by
  have share : (rateTarget inc - rate.toNat) / 2 ^ shift.val ≤ rateTarget inc - rate.toNat := Nat.div_le_self ..
  have cap : rateTarget inc ≤ 4294967295 := Nat.min_le_right ..
  refine ⟨smooth_toNat rate inc shift (by omega) ?_, by omega⟩
  rw [← Nat.cast_sub h]
  norm_cast

theorem smooth_down {rate : Word} {inc : Nat} (shift : Fin 8) (h : rateTarget inc < rate.toNat) :
    let share := (rate.toNat - rateTarget inc + (2 ^ shift.val - 1)) / 2 ^ shift.val
    (smooth rate inc shift).toNat + share = rate.toNat ∧ 1 ≤ share ∧ share ≤ rate.toNat - rateTarget inc := by
  intro share
  have pos : 0 < 2 ^ shift.val := Nat.two_pow_pos _
  have least : 1 ≤ share := (Nat.one_le_div_iff pos).2 (by omega)
  have most : share ≤ rate.toNat - rateTarget inc := by
    refine Nat.lt_succ_iff.1 ((Nat.div_lt_iff_lt_mul pos).2 ?_)
    obtain ⟨d, hd⟩ := Nat.exists_eq_add_of_lt pos
    rw [Nat.zero_add] at hd
    rw [hd, Nat.add_sub_cancel]
    nlinarith [Nat.zero_le ((rate.toNat - rateTarget inc) * d)]
  have bound := rate.isLt
  have value : (smooth rate inc shift).toNat = rate.toNat - share := by
    refine smooth_toNat rate inc shift (by omega) ?_
    have gap : (rateTarget inc : Int) - rate.toNat = -((rate.toNat - rateTarget inc : Nat) : Int) := by
      rw [Nat.cast_sub h.le]
      ring
    rw [gap, neg_ediv_eq_neg_ceil _ pos, Nat.cast_sub (by omega)]
    rfl
  exact ⟨by omega, least, most⟩

/-- Settles O20: R moves by the floor of the difference's quotient. -/
theorem rateMovesTowardItsTarget : Obligations.RateMovesTowardItsTarget := by
  intro rate inc shift target after
  have target_eq : target = rateTarget inc := by
    rw [rateTarget, Nat.min_def]
    simp only [target]
    split_ifs <;> omega
  rw [target_eq]
  refine ⟨fun still => ?_, fun up => ?_, fun down => ?_⟩
  · have one : 2 ^ shift.val = 1 := by rw [still]; rfl
    rcases Nat.lt_or_ge (rateTarget inc) rate.toNat with down | up
    · obtain ⟨moved, _⟩ := smooth_down shift down
      rw [one, Nat.div_one] at moved
      change (smooth rate inc shift).toNat = _
      omega
    · obtain ⟨moved, _⟩ := smooth_up shift up
      rw [one, Nat.div_one] at moved
      change (smooth rate inc shift).toNat = _
      omega
  · obtain ⟨moved, below⟩ := smooth_up shift up
    exact ⟨moved, moved.trans_le below⟩
  · obtain ⟨moved, least, most⟩ := smooth_down shift down
    change (smooth rate inc shift).toNat + _ = _ ∧ _ ≤ (smooth rate inc shift).toNat ∧ (smooth rate inc shift).toNat < _
    exact ⟨moved, by omega, by omega⟩

end Sys2Proof.Machine

/-! # Proofs: element steps, checks and the stages of completion (chapters 3 and 4) -/

namespace Sys2Proof.Machine

/-! ## Checks (R68 to R72) -/

theorem HitFlag.bit_injective {f g : HitFlag} (h : f.bit = g.bit) : f = g := by
  cases f <;> cases g <;> simp_all [HitFlag.bit]

theorem hasFlag_or_mask {flags : FlagSet} {f g : HitFlag} :
    hasFlag (flags ||| f.mask) g = true ↔ hasFlag flags g = true ∨ g = f := by
  have bit : f.mask.getLsbD g.bit = decide (g.bit = f.bit) := by
    have bound := g.bit_lt
    simp only [HitFlag.mask, BitVec.getLsbD_shiftLeft, BitVec.getLsbD_one]
    by_cases eq : g.bit = f.bit
    · simp [eq]
      omega
    · simp [eq]
      omega
  rw [hasFlag, BitVec.getLsbD_or, bit, Bool.or_eq_true, decide_eq_true_iff]
  exact or_congr_right ⟨HitFlag.bit_injective, fun eq => eq ▸ rfl⟩

theorem hasFlag_setFlags {flags : FlagSet} {hits : List HitFlag} {f : HitFlag} :
    hasFlag (setFlags flags hits) f = true ↔ hasFlag flags f = true ∨ f ∈ hits := by
  unfold setFlags
  induction hits generalizing flags with
  | nil => simp
  | cons g rest ih => rw [List.foldl_cons, ih, hasFlag_or_mask, List.mem_cons, or_assoc]

theorem mem_hitFlags (f : HitFlag) : f ∈ hitFlags := by cases f <;> decide

theorem mem_newHits {r : Element} {zoneClip runClip : Bool} {f : HitFlag} :
    f ∈ newHits r zoneClip runClip ↔ hasFlag r.flags f = false ∧ checkHolds r zoneClip runClip f = true := by
  rw [newHits, List.mem_filter, Bool.and_eq_true, Bool.not_eq_true', and_iff_right (mem_hitFlags f), and_comm]

/-- Each new hit is handed to the bound IMMEDIATE ports in turn (R78, R79). -/
theorem handHits_attention {s : State} (ready : s.phase = .ready) (e : ElementIx) (m : MachineId) (hits : List HitFlag)
    (q : Port) :
    (handHits e m hits s).attention[q] =
      if immediatePorts s.settings m q = true then
        hits.foldl (fun a f => a.hit f.cause 1 (some e) s.settings.enables[q]) s.attention[q]
      else s.attention[q] := by
  unfold handHits
  induction hits generalizing s with
  | nil => simp
  | cons f rest ih =>
    have frame : hitAt (immediatePorts s.settings m) f.cause 1 (some e) s =
        { s with attention := (hitAt (immediatePorts s.settings m) f.cause 1 (some e) s).attention } := by
      unfold hitAt
      split <;> rfl
    have settings : (hitAt (immediatePorts s.settings m) f.cause 1 (some e) s).settings = s.settings := by rw [frame]
    rw [List.foldl_cons, ih (by rw [frame]; exact ready), settings, hitAt_attention]
    by_cases told : immediatePorts s.settings m q = true
    · rw [if_pos told, if_pos told, if_pos ⟨ready, told⟩]
      rfl
    · rw [if_neg told, if_neg told, if_neg fun both => told both.2]

/-- Settles O22: `newHits` filters the flags in check order by their checks. -/
theorem checksMakeNewHits : Obligations.ChecksMakeNewHits := by
  unfold Obligations.ChecksMakeNewHits
  intro cause
  have causes (f : HitFlag) : f.cause = cause f := by cases f <;> rfl
  refine ⟨causes, fun r zoneClip runClip => ?_, fun s e m hits q ready => ?_⟩
  · intro holds
    have check (f : HitFlag) : checkHolds r zoneClip runClip f = true ↔ holds f := by
      cases f with
      | plan | limit | clipped => simp [checkHolds, holds]
      | rateLow | rateHigh =>
        simp only [checkHolds, holds, Bool.and_eq_true, bne_iff_ne, decide_eq_true_eq, gt_iff_lt]
        rfl
    have new (f : HitFlag) : f ∈ newHits r zoneClip runClip ↔ hasFlag r.flags f = false ∧ holds f := by
      rw [mem_newHits, check]
    refine ⟨new, fun f => ?_, ?_, List.filter_sublist .., fun window ⟨low, high⟩ => ?_⟩
    · rw [hasFlag_setFlags, new]
      cases hasFlag r.flags f <;> simp
    · exact List.Nodup.filter _ (by decide)
    · have ordered := BitVec.le_def.1 window
      obtain ⟨_, below⟩ := low
      obtain ⟨_, above⟩ := high
      omega
  · simp only [← causes]
    rw [handHits_attention ready]
    simp [immediatePorts]

/-! ## The element step (Table 3-2) -/

/-- An append after a record is written, where the head and machine stay, is the append before it but for that
record. -/
theorem appendHistory_written (s : State) (e : ElementIx) (h : HistoryRecord) {x : Element} (queues : Vector DueQueue 4)
    (head : x.head = s.elements[e].head) (machine : x.machine = s.elements[e].machine) :
    (State.appendHistory { s.write e x with queues := queues } e h).1 =
      { s with
        elements := s.elements.set e { x with head := (s.appendHistory e h).1.elements[e].head }
        pool := (s.appendHistory e h).1.pool
        attention := (s.appendHistory e h).1.attention
        queues := queues } := by
  have record : State.elements { s.write e x with queues := queues } = s.elements.set e x := rfl
  have same : (s.elements.set e x)[e] = x := get_set_same ..
  rcases appendHistory_cases { s.write e x with queues := queues } e h with
    ⟨pool, moved, kept, appended⟩ | ⟨dropped, appended⟩
  · rw [record, same, head] at kept
    rcases appendHistory_cases s e h with ⟨pool', moved', kept', appended'⟩ | ⟨dropped', _⟩
    · cases kept.symm.trans kept'
      rw [appended, appended']
      have written : (s.write e x).elements = s.elements.set e x := rfl
      simp only [written, same, get_set_same, Vector.set_set]
      rfl
    · cases kept.symm.trans dropped'
  · rw [record, same, head] at dropped
    rcases appendHistory_cases s e h with ⟨pool', moved', kept', _⟩ | ⟨_, appended'⟩
    · cases dropped.symm.trans kept'
    · have own : ({ x with head := s.elements[e].head } : Element) = x := by rw [← head]
      have attention : (raiseAt (fun p => s.settings.binds p x.machine) .historyLost
            { s.write e x with queues := queues }).attention =
          (raiseAt (fun p => s.settings.binds p s.elements[e].machine) .historyLost s).attention :=
        table_ext fun q => by
          rw [raiseAt_attention, raiseAt_attention, machine]
          rfl
      have frame := raiseAt_eq (fun p => s.settings.binds p x.machine) .historyLost
        { s.write e x with queues := queues }
      rw [attention] at frame
      rw [appended, appended', record, same]
      simp only [raiseAt_frame, own]
      exact frame

theorem stageEight_eq (mode : Mode) (r : Element) (zoneClip runClip : Bool) :
    stageEight mode r zoneClip runClip = if mode = .checked then newHits r zoneClip runClip else [] := by
  cases mode <;> rfl

/-- A step that skips its record moves on to the next stage (R44). -/
theorem exec_elementStep {s : State} {run : FoldRun} {e : ElementIx} (engine : s.engine = .fold run)
    (stage : run.stage = .step e) : exec .elementStep s = .next (stepElement run e s) := by
  change execElementStep s = _
  simp only [execElementStep, engine, stage]

theorem stepElement_active {s : State} {run : FoldRun} {e : ElementIx} (active : s.elements[e].state = .active)
    (mode : run.snapshot.modes[s.elements[e].machine] ≠ .discard) :
    stepElement run e s = stepActive run e s.elements[e] s := by
  unfold stepElement
  rw [active]
  cases own : run.snapshot.modes[s.elements[e].machine] with
  | discard => exact (mode own).elim
  | checked | unchecked => rfl

theorem stepElement_skips {s : State} {run : FoldRun} {e : ElementIx}
    (skips : s.elements[e].state = .suspended ∨
      s.elements[e].state = .active ∧ run.snapshot.modes[s.elements[e].machine] = .discard) :
    stepElement run e s = stepSkipped run e true s := by
  unfold stepElement
  rcases skips with suspended | ⟨active, discard⟩
  · simp only [suspended]
  · simp only [active, discard]

theorem stepElement_vacant {s : State} {run : FoldRun} {e : ElementIx} (vacant : s.elements[e].state = .vacant) :
    stepElement run e s = stepSkipped run e false s := by
  simp only [stepElement, vacant]

/-- The state that stage 9 looks at for a LIMIT new hit (R75). -/
def limitLoggedState (s : State) (e : ElementIx) (r : Element) (hits : List HitFlag) (interval : Interval) : State :=
  if .limit ∈ hits ∧ s.elements[e].limitLogged = false then
    (s.appendHistory e { interval := interval, generation := r.generation, wear := r.wear, body := .limitReached }).1
  else s

theorem limitLoggedState_frame (s : State) (e : ElementIx) (r : Element) (hits : List HitFlag) (interval : Interval) :
    (limitLoggedState s e r hits interval).settings = s.settings ∧
      (limitLoggedState s e r hits interval).phase = s.phase := by
  unfold limitLoggedState
  split
  · simp
  · exact ⟨rfl, rfl⟩

/-- Stage 9 on the written and placed record does what it does on the record before the step (R75, R76). -/
theorem logLimit_written (s : State) (e : ElementIx) {r : Element} (hits : List HitFlag) (interval : Interval)
    (queues : Vector DueQueue 4) (head : r.head = s.elements[e].head) (machine : r.machine = s.elements[e].machine)
    (limitLogged : r.limitLogged = s.elements[e].limitLogged) :
    logLimit e r hits interval { s.write e (checkedRecord r hits) with queues := queues } =
      { s with
        elements := s.elements.set e
          { checkedRecord r hits with head := (limitLoggedState s e r hits interval).elements[e].head }
        pool := (limitLoggedState s e r hits interval).pool
        attention := (limitLoggedState s e r hits interval).attention
        queues := queues } := by
  have condition : (hits.contains .limit && !r.limitLogged) = true ↔
      .limit ∈ hits ∧ s.elements[e].limitLogged = false := by
    rw [limitLogged]
    simp
  unfold logLimit limitLoggedState
  by_cases limit : HitFlag.limit ∈ hits ∧ s.elements[e].limitLogged = false
  · rw [if_pos (condition.2 limit), if_pos limit]
    exact appendHistory_written s e _ queues head machine
  · have own : ({ checkedRecord r hits with head := s.elements[e].head } : Element) = checkedRecord r hits := by
      rw [← head]
      rfl
    rw [if_neg (mt condition.1 limit), if_neg limit, own]
    rfl

theorem stepped_eq (run : FoldRun) (e : ElementIx) (m : MachineId) (credits : Prop) [Decidable credits]
    (due before : Option Interval) (hits : List HitFlag) :
    run.stepped e m (decide credits) (due != before) hits =
      { run with
        stage := FoldStage.afterStep e
        credited := run.credited + (if credits then 1 else 0)
        rateOnly := run.rateOnly + (if credits then 0 else 1)
        newHits := run.newHits + hits.length
        moved := if due = before then run.moved else run.moved.set m true
        tally := hits.foldl (fun acc f => acc.add m e f.cause) run.tally } := by
  by_cases h : credits <;> by_cases same : due = before <;> simp [FoldRun.stepped, h, same]

/-- The active step, its reckoning and its hits by name. -/
theorem stepActive_eq {run : FoldRun} {e : ElementIx} {r x : Element} {s after : State} {hits : List HitFlag}
    (reckoned : reckon r s.closedBank[r.machine].zones[r.zone] s.closedBank[r.machine].runTime run.snapshot.weights
      run.snapshot.shifts[r.machine] run.interval = x)
    (new : stageEight run.snapshot.modes[r.machine] x s.closedBank[r.machine].zones[r.zone].clip
      s.closedBank[r.machine].runClip = hits)
    (handed : handHits e r.machine hits (logLimit e x hits run.interval
      { s.write e (checkedRecord x hits) with
        queues := s.queues.set r.machine (s.queues[r.machine].place e x.due) }) = after) :
    stepActive run e r s =
      { after with
        engine := .fold (run.stepped e r.machine (decide (r.start ≤ run.interval)) (x.due != r.due) hits) } := by
  subst reckoned
  subst new
  subst handed
  rfl

/-- Settles O18: the active step is the reckoning, the checked record, its place, its log and its hits. -/
theorem elementStepReckonsOneRecord : Obligations.ElementStepReckonsOneRecord := by
  intro s run e engine stage r next bank zone mode num credits rate wear due residue reckoned hits logged
  rw [exec_elementStep engine stage]
  refine ⟨fun vacant => ?_, fun skips => ?_, fun active counted => ?_⟩
  · rw [stepElement_vacant vacant]
    rfl
  · rw [stepElement_skips skips]
    rfl
  · rw [stepElement_active active counted]
    have reckoned_eq : reckon r zone bank.runTime run.snapshot.weights run.snapshot.shifts[r.machine] run.interval =
        reckoned := by
      simp only [reckon, decide_eq_true_iff]
      rfl
    have hits_eq : stageEight mode reckoned zone.clip bank.runClip = hits := stageEight_eq ..
    have logged_eq : limitLoggedState s e reckoned hits run.interval = logged := rfl
    have written := logLimit_written s e (r := reckoned) hits run.interval
      (s.queues.set r.machine (s.queues[r.machine].place e due)) rfl rfl rfl
    obtain ⟨settings, phase⟩ := limitLoggedState_frame s e reckoned hits run.interval
    rw [logged_eq] at written settings phase
    have handed := handHits_frame e r.machine hits (logLimit e reckoned hits run.interval
      { s.write e (checkedRecord reckoned hits) with
        queues := s.queues.set r.machine (s.queues[r.machine].place e due) })
    have attention := handHits_attention_congr e r.machine hits (s := logLimit e reckoned hits run.interval
      { s.write e (checkedRecord reckoned hits) with
        queues := s.queues.set r.machine (s.queues[r.machine].place e due) }) (t := logged)
      (by rw [written]) (by rw [written, settings]) (by rw [written, phase])
    rw [attention] at handed
    have after := handed.trans
      (congrArg (fun t : State => { t with attention := (handHits e r.machine hits logged).attention }) written)
    rw [stepActive_eq reckoned_eq hits_eq after, stepped_eq]
    rfl

end Sys2Proof.Machine

/-! # Proofs: attention causes, staleness and the deferred tally (chapters 6 and 10) -/

namespace Sys2Proof.Machine

/-! ## One port's record (R172, R173) -/

theorem HitCause.ix_injective {c d : HitCause} (h : c.ix = d.ix) : c = d := by
  cases c <;> cases d <;> simp_all [HitCause.ix]

section Record

variable {a : PortAttention} {enable : CauseSet}

theorem raise_pending {c d : Cause} :
    hasCause (a.raise c enable).pending d = true ↔ hasCause a.pending d = true ∨ d = c := by
  change hasCause (a.pending ||| c.mask) d = true ↔ _
  rw [hasCause_or, hasCause_mask]

theorem hit_pending {h : HitCause} {n : Nat} {l : Option ElementIx} {d : Cause} :
    hasCause (a.hit h n l enable).pending d = true ↔ hasCause a.pending d = true ∨ d = h.cause := raise_pending

theorem hit_summaries {h g : HitCause} {n : Nat} {l : Option ElementIx} :
    (a.hit h n l enable).summaries[g.ix] =
      if g = h then a.summaries[g.ix].add n l else a.summaries[g.ix] := by
  change (a.summaries.set h.ix (a.summaries[h.ix].add n l))[g.ix] = _
  rw [get_set]
  by_cases eq : g = h
  · rw [if_pos (congrArg HitCause.ix eq.symm), if_pos eq, eq]
  · rw [if_neg fun same => eq (HitCause.ix_injective same.symm), if_neg eq]

theorem add_count (x : HitSummary) (n : Nat) (l : Option ElementIx) :
    (x.add n l).count.toNat = min (x.count.toNat + n) 65535 := by
  have bound : min (x.count.toNat + n) 65535 < 2 ^ 16 := by omega
  simp only [HitSummary.add, Config.maxHalf, BitVec.toNat_ofNat, Nat.mod_eq_of_lt bound]

end Record

section Lower

variable {x y : Option ElementIx} {e f : ElementIx}

theorem lowerIndex_some_some : lowerIndex (some f) (some e) = some (if f < e then f else e) := by
  change some (min f e) = _
  rw [min_def]
  split_ifs with le lt lt
  · rfl
  · rw [le_antisymm le (not_lt.1 lt)]
  · exact (le lt.le).elim
  · rfl

theorem lowerIndex_eq_some (h : lowerIndex x y = some e) : x = some e ∨ y = some e := by
  cases x with
  | none => exact .inr h
  | some a =>
    cases y with
    | none => exact .inl h
    | some b =>
      rw [lowerIndex_some_some] at h
      split at h
      · exact .inl h
      · exact .inr h

theorem lowerIndex_le_left (h : x = some f) : ∃ g, lowerIndex x y = some g ∧ g ≤ f := by
  subst h
  cases y with
  | none => exact ⟨f, rfl, le_rfl⟩
  | some b => exact ⟨min f b, rfl, min_le_left ..⟩

theorem lowerIndex_le_right (h : y = some f) : ∃ g, lowerIndex x y = some g ∧ g ≤ f := by
  subst h
  cases x with
  | none => exact ⟨f, rfl, le_rfl⟩
  | some b => exact ⟨min b f, rfl, min_le_right ..⟩

end Lower

/-! ## Staleness (R106, R107) -/

/-- The staleness events of some machines have been taken, and nothing else has changed. -/
structure StaleAt (events : MachineId → Prop) (s t : State) : Prop where
  rest : t = { s with engine := t.engine, plans := t.plans, attention := t.attention }
  turned : ∀ m : MachineId, events m → s.plans[m].state = .fresh → t.plans[m] = { s.plans[m] with state := .stale }
  kept : ∀ m : MachineId, ¬ (events m ∧ s.plans[m].state = .fresh) → t.plans[m] = s.plans[m]
  summaries : ∀ q : Port, t.attention[q].summaries = s.attention[q].summaries
  pending : ∀ (q : Port) (c : Cause), hasCause t.attention[q].pending c = true ↔
    hasCause s.attention[q].pending c = true ∨ c = .planStale ∧
      ∃ m : MachineId, events m ∧ s.plans[m].state = .fresh ∧ planPorts s.settings m q = true

theorem staleAt_none (s : State) : StaleAt (fun _ => False) s s where
  rest := rfl
  turned _ no := no.elim
  kept _ _ := rfl
  summaries _ := rfl
  pending q c := by simp

theorem staleEvent_staleAt {s : State} (ready : s.phase = .ready) (m : MachineId) :
    StaleAt (· = m) s (staleEvent m s) := by
  rcases staleEvent_cases m s with ⟨fresh, event⟩ | ⟨notFresh, event⟩ <;> rw [event]
  · have frame := raiseAt_eq (planPorts s.settings m) .planStale
      { s with engine := s.engine.watch m, plans := s.plans.set m { s.plans[m] with state := .stale } }
    have plans : (raiseAt (planPorts s.settings m) .planStale
        { s with
          engine := s.engine.watch m
          plans := s.plans.set m { s.plans[m] with state := .stale } }).plans =
        s.plans.set m { s.plans[m] with state := .stale } := by rw [frame]
    have attention (q : Port) := raiseAt_attention (planPorts s.settings m) .planStale
      { s with engine := s.engine.watch m, plans := s.plans.set m { s.plans[m] with state := .stale } } q
    refine ⟨?_, ?_, fun k other => ?_, fun q => ?_, fun q c => ?_⟩
    · rw [frame]
    · rintro k rfl _
      rw [plans, get_set_same]
    · rw [plans, get_set_other _ _ fun eq => other ⟨eq.symm, eq ▸ fresh⟩]
    · rw [attention]
      split <;> rfl
    · rw [attention]
      by_cases told : planPorts s.settings m q = true
      · rw [if_pos ⟨ready, told⟩, raise_pending]
        exact or_congr_right ⟨fun eq => ⟨eq, m, rfl, fresh, told⟩, fun ⟨eq, _⟩ => eq⟩
      · rw [if_neg fun both => told both.2]
        refine ⟨.inl, ?_⟩
        rintro (own | ⟨_, k, rfl, _, toldAgain⟩)
        · exact own
        · exact (told toldAgain).elim
  · refine ⟨rfl, ?_, fun k _ => rfl, fun q => rfl, fun q c => ⟨.inl, ?_⟩⟩
    · rintro k rfl fresh
      exact (notFresh fresh).elim
    · rintro (own | ⟨_, k, rfl, fresh, _⟩)
      · exact own
      · exact (notFresh fresh).elim

/-- Staleness events add up: a plan that has turned STALE is not FRESH for a later event. -/
theorem StaleAt.trans {P Q : MachineId → Prop} {s t u : State} (first : StaleAt P s t) (later : StaleAt Q t u) :
    StaleAt (fun m => P m ∨ Q m) s u := by
  have settings : t.settings = s.settings := by rw [first.rest]
  have fresh (m : MachineId) : t.plans[m].state = .fresh ↔ s.plans[m].state = .fresh ∧ ¬ P m := by
    by_cases turned : P m ∧ s.plans[m].state = .fresh
    · rw [first.turned m turned.1 turned.2]
      exact iff_of_false nofun fun both => both.2 turned.1
    · rw [first.kept m turned]
      exact ⟨fun own => ⟨own, fun event => turned ⟨event, own⟩⟩, fun both => both.1⟩
  refine ⟨?_, fun m event own => ?_, fun m none => ?_, fun q => (later.summaries q).trans (first.summaries q),
    fun q c => ?_⟩
  · rw [later.rest, first.rest]
  · by_cases before : P m
    · rw [later.kept m fun both => ((fresh m).1 both.2).2 before, first.turned m before own]
    · rw [later.turned m (event.resolve_left before) ((fresh m).2 ⟨own, before⟩),
      first.kept m fun both => before both.1]
  · rw [later.kept m fun both => none ⟨.inr both.1, ((fresh m).1 both.2).1⟩,
      first.kept m fun both => none ⟨.inl both.1, both.2⟩]
  · rw [later.pending, first.pending, settings, or_assoc]
    refine or_congr_right ⟨?_, ?_⟩
    · rintro (⟨eq, m, event, own, told⟩ | ⟨eq, m, event, own, told⟩)
      · exact ⟨eq, m, .inl event, own, told⟩
      · exact ⟨eq, m, .inr event, ((fresh m).1 own).1, told⟩
    · rintro ⟨eq, m, event, own, told⟩
      by_cases before : P m
      · exact .inl ⟨eq, m, before, own, told⟩
      · exact .inr ⟨eq, m, event.resolve_left before, (fresh m).2 ⟨own, before⟩, told⟩

theorem StaleAt.congr {P Q : MachineId → Prop} {s t : State} (h : StaleAt P s t) (same : ∀ m, P m ↔ Q m) :
    StaleAt Q s t := by
  have eq : P = Q := funext fun m => propext (same m)
  exact eq ▸ h

theorem staleMarked_staleAt {s : State} (ready : s.phase = .ready) (run : FoldRun) :
    StaleAt (fun m => run.moved[m] = true ∨ run.expired[m] = true) s (staleMarked run s) := by
  have upTo (l : List MachineId) : StaleAt (fun m => m ∈ l ∧ (run.moved[m] = true ∨ run.expired[m] = true)) s
      (l.foldl (fun s m => if run.moved[m] || run.expired[m] then staleEvent m s else s) s) := by
    induction l generalizing s with
    | nil => exact (staleAt_none s).congr fun m => by simp
    | cons k rest ih =>
      rw [List.foldl_cons]
      by_cases marked : run.moved[k] = true ∨ run.expired[k] = true
      · rw [if_pos (Bool.or_eq_true_iff.2 marked)]
        have first := staleEvent_staleAt ready k
        refine (first.trans (ih (by rw [first.rest]; exact ready))).congr fun m => ?_
        rw [List.mem_cons]
        constructor
        · rintro (rfl | ⟨mem, own⟩)
          · exact ⟨.inl rfl, marked⟩
          · exact ⟨.inr mem, own⟩
        · rintro ⟨rfl | mem, own⟩
          · exact .inl rfl
          · exact .inr ⟨mem, own⟩
      · rw [if_neg (mt Bool.or_eq_true_iff.1 marked)]
        refine (ih ready).congr fun m => ?_
        rw [List.mem_cons]
        refine ⟨fun both => ⟨.inr both.1, both.2⟩, ?_⟩
        rintro ⟨rfl | mem, own⟩
        · exact (marked own).elim
        · exact ⟨mem, own⟩
  exact (upTo (List.finRange 4)).congr fun m => by simp

/-- Settles O24: the stage is the staleness events of the marked machines. -/
theorem movedAndExpiredPlansGoStale : Obligations.MovedAndExpiredPlansGoStale := by
  intro s run ready engine stage turned
  have executed : exec .markPlansStale s = .next (markPlansStale run s) :=
    completionStage_in_turn engine stage markPlansStale
  have stale := staleMarked_staleAt ready run
  have marked : markPlansStale run s = { staleMarked run s with
      engine := .fold { run with
        stage := .handHits, moved := Vector.replicate 4 false, expired := Vector.replicate 4 false } } := rfl
  rw [executed, marked]
  generalize staleMarked run s = u at stale
  refine ⟨_, rfl, ?_, rfl, fun m => ⟨fun h => stale.turned m h.1 h.2, stale.kept m⟩, fun q =>
    ⟨stale.summaries q, fun c => ?_⟩⟩
  · rw [stale.rest]
  · refine (stale.pending q c).trans (or_congr_right (and_congr_right fun _ => exists_congr fun m => ?_))
    simp [turned, planPorts, and_assoc]

/-- Settles O46: a raise and a hit by their effect on one record, and a staleness event by its plan. -/
theorem raisesAndStalenessReachTheirPorts : Obligations.RaisesAndStalenessReachTheirPorts := by
  refine ⟨fun s for_ q lines => ⟨fun c => ⟨?_, fun starting => ?_, fun ready other => ?_, fun ready told => ?_⟩,
    fun h n e => ⟨?_, fun starting => ?_, fun ready other => ?_, fun ready told => ?_⟩⟩, fun s m ready => ?_⟩
  · exact moves_keep move_keeps_lines (raiseAt_moves ..) lines
  · simp only [raiseAt, starting]
  · rw [raiseAt_attention, if_neg fun both => by rw [other] at both; cases both.2]
  · rw [raiseAt_attention, if_pos ⟨ready, told⟩]
    exact ⟨rfl, fun x => raise_pending⟩
  · exact moves_keep move_keeps_lines (hitAt_moves ..) lines
  · simp only [hitAt, starting]
  · rw [hitAt_attention, if_neg fun both => by rw [other] at both; cases both.2]
  · intro after
    have after_eq : after = s.attention[q].hit h n (some e) s.settings.enables[q] := by
      simp only [after]
      rw [hitAt_attention, if_pos ⟨ready, told⟩]
    have own : after.summaries[h.ix] = s.attention[q].summaries[h.ix].add n (some e) := by
      rw [after_eq, hit_summaries, if_pos rfl]
    rw [own, after_eq]
    refine ⟨fun x => hit_pending, fun g other => by rw [hit_summaries, if_neg other], add_count .., fun none => ?_,
      fun f some => ?_⟩
    · change lowerIndex _ _ = _
      rw [none]
      rfl
    · change lowerIndex _ _ = _
      rw [some, lowerIndex_some_some]
  · have stale := staleEvent_staleAt ready m
    have engine := staleEvent_engine m s
    refine ⟨_, rfl, stale.rest, fun p run build own => ?_, fun other => ?_, fun fresh => ?_, fun notFresh => ?_,
      fun q => ⟨stale.summaries q, fun c => ?_⟩⟩
    · rw [engine, build]
      exact if_pos own
    · rw [engine]
      cases build : s.engine with
      | build p run => exact if_neg (other p run build)
      | idle | fold | lookup => rfl
    · rcases staleEvent_cases m s with ⟨_, event⟩ | ⟨notFresh, _⟩
      · rw [event, raiseAt_eq]
      · exact (notFresh fresh).elim
    · rcases staleEvent_cases m s with ⟨fresh, _⟩ | ⟨_, event⟩
      · exact (notFresh fresh).elim
      · rw [event]
        exact ⟨rfl, rfl⟩
    · refine (stale.pending q c).trans (or_congr_right (and_congr_right fun _ => ?_))
      simp [planPorts]

/-! ## The deferred tally at one port (R80) -/

/-- A machine of the binding has a count in the tally for a hit cause. -/
abbrev tallyHits (tally : DeferredTally) (binding : BitVec 4) (x : MachineId × HitCause) : Prop :=
  binding.getLsbD x.1.val = true ∧ 0 < tally.entries[x.1][x.2.ix].count

/-- One entry of the tally handed to a port. -/
def PortAttention.takeEntry (tally : DeferredTally) (binding : BitVec 4) (enable : CauseSet) (a : PortAttention)
    (x : MachineId × HitCause) : PortAttention :=
  if binding.getLsbD x.1.val && 0 < tally.entries[x.1][x.2.ix].count then
    a.hit x.2 tally.entries[x.1][x.2.ix].count tally.entries[x.1][x.2.ix].lowest enable
  else a

/-- The entries in the order in which the stage hands them: by machine, then by cause. -/
def tallyPlaces : List (MachineId × HitCause) := (List.finRange 4).flatMap fun m => hitCauses.map fun c => (m, c)

section Tally

variable {tally : DeferredTally} {binding : BitVec 4} {enable : CauseSet} {a : PortAttention}
  {x : MachineId × HitCause} {l : List (MachineId × HitCause)} {c : HitCause}

theorem takeTally_eq : a.takeTally tally binding enable =
    tallyPlaces.foldl (PortAttention.takeEntry tally binding enable) a := by
  rw [tallyPlaces, List.foldl_flatMap]
  simp only [List.foldl_map]
  rfl

theorem mem_tallyPlaces (m : MachineId) (c : HitCause) : (m, c) ∈ tallyPlaces := by
  have listed : c ∈ hitCauses := by cases c <;> decide
  exact List.mem_flatMap.2 ⟨m, List.mem_finRange m, List.mem_map.2 ⟨c, listed, rfl⟩⟩

theorem takeEntry_of_hit (h : tallyHits tally binding x) : a.takeEntry tally binding enable x =
    a.hit x.2 tally.entries[x.1][x.2.ix].count tally.entries[x.1][x.2.ix].lowest enable :=
  if_pos (by rw [h.1, Bool.true_and]; exact decide_eq_true h.2)

theorem takeEntry_of_not_hit (h : ¬ tallyHits tally binding x) : a.takeEntry tally binding enable x = a :=
  if_neg fun both => h ⟨(Bool.and_eq_true_iff.1 both).1, of_decide_eq_true (Bool.and_eq_true_iff.1 both).2⟩

theorem takeEntries_pending {d : Cause} :
    hasCause (l.foldl (PortAttention.takeEntry tally binding enable) a).pending d = true ↔
      hasCause a.pending d = true ∨ ∃ x ∈ l, d = x.2.cause ∧ tallyHits tally binding x := by
  induction l generalizing a with
  | nil => simp
  | cons x rest ih =>
    rw [List.foldl_cons, ih, List.exists_mem_cons_iff]
    by_cases hit : tallyHits tally binding x
    · rw [takeEntry_of_hit hit, hit_pending, or_assoc, and_iff_left hit]
    · rw [takeEntry_of_not_hit hit, or_iff_right fun both : _ ∧ tallyHits tally binding x => hit both.2]

/-- What one entry adds to the summary of a cause. -/
theorem takeEntry_summary : (a.takeEntry tally binding enable x).summaries[c.ix] =
    if c = x.2 ∧ tallyHits tally binding x then
      a.summaries[c.ix].add tally.entries[x.1][x.2.ix].count tally.entries[x.1][x.2.ix].lowest
    else a.summaries[c.ix] := by
  by_cases hit : tallyHits tally binding x
  · rw [takeEntry_of_hit hit, hit_summaries]
    simp only [and_iff_left hit]
  · rw [takeEntry_of_not_hit hit, if_neg fun both => hit both.2]

/-- The count that an entry adds for a cause (R173). -/
def tallyCount (tally : DeferredTally) (binding : BitVec 4) (c : HitCause) (x : MachineId × HitCause) : Nat :=
  if c = x.2 ∧ binding.getLsbD x.1.val = true then tally.entries[x.1][x.2.ix].count else 0

theorem takeEntry_count : (a.takeEntry tally binding enable x).summaries[c.ix].count.toNat =
    min (a.summaries[c.ix].count.toNat + tallyCount tally binding c x) 65535 := by
  have bound := a.summaries[c.ix].count.isLt
  rw [takeEntry_summary]
  by_cases hit : c = x.2 ∧ tallyHits tally binding x
  · rw [if_pos hit, add_count, tallyCount, if_pos ⟨hit.1, hit.2.1⟩]
  · rw [if_neg hit]
    have zero : tallyCount tally binding c x = 0 := by
      unfold tallyCount
      split
      · next own =>
        by_contra some
        exact hit ⟨own.1, own.2, Nat.pos_of_ne_zero some⟩
      · rfl
    omega

theorem takeEntries_count : (l.foldl (PortAttention.takeEntry tally binding enable) a).summaries[c.ix].count.toNat =
    min (a.summaries[c.ix].count.toNat + (l.map (tallyCount tally binding c)).sum) 65535 := by
  induction l generalizing a with
  | nil =>
    have bound := a.summaries[c.ix].count.isLt
    simp
    omega
  | cons x rest ih =>
    rw [List.foldl_cons, ih, takeEntry_count, List.map_cons, List.sum_cons]
    omega

theorem takeEntries_lowest_of {e : ElementIx}
    (h : (l.foldl (PortAttention.takeEntry tally binding enable) a).summaries[c.ix].lowest = some e) :
    a.summaries[c.ix].lowest = some e ∨
      ∃ m, (m, c) ∈ l ∧ tallyHits tally binding (m, c) ∧ tally.entries[m][c.ix].lowest = some e := by
  induction l generalizing a with
  | nil => exact .inl h
  | cons x rest ih =>
    rcases ih h with before | ⟨m, mem, hit, lowest⟩
    · rw [takeEntry_summary] at before
      split at before
      · next own =>
        obtain ⟨rfl, hit⟩ := own
        rcases lowerIndex_eq_some before with before | lowest
        · exact .inl before
        · exact .inr ⟨x.1, List.mem_cons_self, hit, lowest⟩
      · exact .inl before
    · exact .inr ⟨m, List.mem_cons_of_mem _ mem, hit, lowest⟩

theorem takeEntries_lowest_le {f : ElementIx} (h : a.summaries[c.ix].lowest = some f) :
    ∃ g, (l.foldl (PortAttention.takeEntry tally binding enable) a).summaries[c.ix].lowest = some g ∧ g ≤ f := by
  induction l generalizing a f with
  | nil => exact ⟨f, h, le_rfl⟩
  | cons x rest ih =>
    have step : ∃ g, (a.takeEntry tally binding enable x).summaries[c.ix].lowest = some g ∧ g ≤ f := by
      rw [takeEntry_summary]
      split
      · exact lowerIndex_le_left h
      · exact ⟨f, h, le_rfl⟩
    obtain ⟨g, lowest, le⟩ := step
    obtain ⟨k, after, below⟩ := ih lowest
    exact ⟨k, after, below.trans le⟩

theorem takeEntries_lowest_le_entry {m : MachineId} {e : ElementIx} (mem : (m, c) ∈ l)
    (hit : tallyHits tally binding (m, c)) (h : tally.entries[m][c.ix].lowest = some e) :
    ∃ f, (l.foldl (PortAttention.takeEntry tally binding enable) a).summaries[c.ix].lowest = some f ∧ f ≤ e := by
  induction l generalizing a with
  | nil => cases mem
  | cons x rest ih =>
    rcases List.mem_cons.1 mem with rfl | mem
    · have step : ∃ g, (a.takeEntry tally binding enable (m, c)).summaries[c.ix].lowest = some g ∧ g ≤ e := by
        rw [takeEntry_summary, if_pos ⟨rfl, hit⟩]
        exact lowerIndex_le_right h
      obtain ⟨g, lowest, le⟩ := step
      obtain ⟨k, after, below⟩ := takeEntries_lowest_le (l := rest) (tally := tally) (binding := binding)
        (enable := enable) lowest
      exact ⟨k, after, below.trans le⟩
    · exact ih mem

/-- Each machine has one place for a cause. -/
theorem tallyPlaces_count : (tallyPlaces.map (tallyCount tally binding c)).sum =
    ((List.finRange 4).map fun m => if binding.getLsbD m.val then tally.entries[m][c.ix].count else 0).sum := by
  have one (m : MachineId) : (hitCauses.map fun d => tallyCount tally binding c (m, d)).sum =
      if binding.getLsbD m.val then tally.entries[m][c.ix].count else 0 := by
    cases c <;> simp [hitCauses, tallyCount, HitCause.ix]
  rw [tallyPlaces, List.map_flatMap, List.flatMap_def, List.sum_flatten]
  simp only [List.map_map, Function.comp_def] at one ⊢
  simp only [one]

theorem tallyMeets_iff : tally.meets binding = true ↔
    ∃ m : MachineId, tally.machines[m] = true ∧ binding.getLsbD m.val = true := by
  simp [DeferredTally.meets]

end Tally

/-- Settles O25: a DEFERRED port takes the tally entry by entry. -/
theorem deferredHitsReachPortsByPolicy : Obligations.DeferredHitsReachPortsByPolicy := by
  intro s run engine stage
  refine ⟨handDeferred run s, completionStage_in_turn engine stage handDeferred, rfl, rfl, fun q => ?_⟩
  intro hit summed
  have attention : (handDeferred run s).attention[q] = s.attention[q].foldDone run.tally s.settings.policies[q]
      s.settings.bindings[q] s.settings.enables[q] := get_ofFn ..
  rw [attention]
  have met := tallyMeets_iff (tally := run.tally) (binding := s.settings.bindings[q])
  split
  · next policy => rw [policy]; rfl
  · next policy =>
    rw [policy]
    change (∀ c, hasCause (((s.attention[q].takeTally run.tally s.settings.bindings[q] s.settings.enables[q]).raise
      .reckoned s.settings.enables[q]).pending) c = true ↔ _) ∧ _
    refine ⟨fun c => ?_, fun c => ⟨?_, fun e => ?_, fun m e own lowest => ?_, fun f own => ?_⟩⟩
    · rw [raise_pending, takeTally_eq, takeEntries_pending, or_assoc, or_comm (a := ∃ x ∈ tallyPlaces, _)]
      refine or_congr_right (or_congr_right ⟨?_, ?_⟩)
      · rintro ⟨⟨m, h⟩, _, eq, own⟩
        exact ⟨h, m, eq, own⟩
      · rintro ⟨h, m, eq, own⟩
        exact ⟨(m, h), mem_tallyPlaces m h, eq, own⟩
    · change (PortAttention.summaries (PortAttention.takeTally ..))[c.ix].count.toNat = _
      rw [takeTally_eq, takeEntries_count, tallyPlaces_count]
      rfl
    · intro lowest
      change (PortAttention.summaries (PortAttention.takeTally ..))[c.ix].lowest = some e at lowest
      rw [takeTally_eq] at lowest
      rcases takeEntries_lowest_of lowest with own | ⟨m, _, own, lowest⟩
      · exact .inl own
      · exact .inr ⟨m, own, lowest⟩
    · change ∃ f, (PortAttention.summaries (PortAttention.takeTally ..))[c.ix].lowest = some f ∧ f ≤ e
      rw [takeTally_eq]
      exact takeEntries_lowest_le_entry (mem_tallyPlaces m c) own lowest
    · change ∃ g, (PortAttention.summaries (PortAttention.takeTally ..))[c.ix].lowest = some g ∧ g ≤ f
      rw [takeTally_eq]
      exact takeEntries_lowest_le own
  · next policy =>
    rw [policy]
    refine ⟨fun some => if_pos (met.2 some), fun none => if_neg fun meets => ?_⟩
    obtain ⟨m, hits, bound⟩ := met.1 meets
    rw [show s.settings.bindings[q].getLsbD m.val = false from none m hits] at bound
    cases bound
  · next policy => rw [policy]; rfl

end Sys2Proof.Machine

/-! # Proofs: attention requests (chapter 10) -/

namespace Sys2Proof.Machine

theorem noArgs_cons (b : Byte) (rest : List Byte) : noArgs (b :: rest) = none := rfl

/-! ## ATTN_READ (R174) -/

theorem summaryBytes_eq (x : HitSummary) :
    x.bytes = bytes16 x.count ++
      match x.lowest with
      | none => [0#8, 0#8, 0#8]
      | some e => 1#8 :: bytes16 (BitVec.ofNat 16 e.val) := by
  obtain ⟨count, lowest⟩ := x
  cases lowest <;> rfl

/-! ## ATTN_CLEAR (R175) -/

theorem hasCause_cleared (set named : CauseSet) (c : Cause) :
    hasCause (set &&& ~~~named) c = (hasCause set c && !hasCause named c) := by
  simp [hasCause, c.code_lt]

theorem clearSummaries_get (named : CauseSet) (l : List HitCause) (v : Vector HitSummary 4) (h : HitCause) :
    (l.foldl (clearSummary named) v)[h.ix] =
      if h ∈ l ∧ hasCause named h.cause = true then HitSummary.clear else v[h.ix] := by
  induction l generalizing v with
  | nil => simp
  | cons c rest ih =>
    have step : (clearSummary named v c)[h.ix] =
        if h = c ∧ hasCause named h.cause = true then HitSummary.clear else v[h.ix] := by
      unfold clearSummary
      by_cases own : h = c
      · subst own
        by_cases cleared : hasCause named h.cause = true
        · rw [if_pos cleared, get_set_same, if_pos ⟨rfl, cleared⟩]
        · rw [if_neg cleared, if_neg fun both => cleared both.2]
      · have other : ¬ (h = c ∧ hasCause named h.cause = true) := fun both => own both.1
        rw [if_neg other]
        split
        · exact get_set_other _ _ fun same => own (HitCause.ix_injective same.symm)
        · rfl
    rw [List.foldl_cons, ih, step]
    by_cases later : h ∈ rest ∧ hasCause named h.cause = true
    · rw [if_pos later, if_pos ⟨List.mem_cons_of_mem _ later.1, later.2⟩]
    · rw [if_neg later]
      refine if_congr ?_ rfl rfl
      rw [List.mem_cons]
      tauto

theorem cleared_summaries (a : PortAttention) (named enable : CauseSet) (h : HitCause) :
    (a.cleared named enable).summaries[h.ix] =
      if hasCause named h.cause then HitSummary.clear else a.summaries[h.ix] := by
  have listed : h ∈ hitCauses := by cases h <;> decide
  refine (clearSummaries_get named hitCauses a.summaries h).trans ?_
  simp only [listed, true_and]

/-! ## The argument of ATTN_CLEAR and ATTN_ENABLE (R171) -/

theorem causeArgs_above {c1 c0 : Byte} (h : 2048 ≤ (be16 c1 c0).toNat) : causeArgs [c1, c0] = none := by
  simp [causeArgs, causesArg, Nat.not_lt.2 h]

theorem causeArgs_length {payload : List Byte} (h : payload.length ≠ 2) : causeArgs payload = none := by
  unfold causeArgs
  split
  · exact (h rfl).elim
  · rfl

section Requests

variable {s : State} {p : Port} {payload : List Byte}

theorem exec_attnClear_badArg (ready : s.phase = .ready) (h : causeArgs payload = none) :
    exec (.attnClear p payload) s = .next (s.answer p 0xE9#8 { status := .badArg, body := [] }) := by
  change takeRequest p .attnClear (attnClear p payload) s = _
  rw [takeRequest_ready ready, attnClear, h]
  rfl

theorem exec_attnEnable_badArg (ready : s.phase = .ready) (h : causeArgs payload = none) :
    exec (.attnEnable p payload) s = .next (s.answer p 0xEA#8 { status := .badArg, body := [] }) := by
  change takeRequest p .attnEnable (attnEnable p payload) s = _
  rw [takeRequest_ready ready, attnEnable, h]
  rfl

end Requests

/-- Settles O45: each request is its operation on its own port's record. -/
theorem attentionRequestsActOnTheirPort : Obligations.AttentionRequestsActOnTheirPort := by
  intro s p ready a setBytes summaryBytes listed
  have bytes (h : HitCause) : a.summaries[h.ix].bytes = summaryBytes h := summaryBytes_eq _
  have entry (c : Cause) : a.causeEntry c = BitVec.ofNat 8 c.code :: match c with
      | .limit => summaryBytes .limit
      | .plan => summaryBytes .plan
      | .rate => summaryBytes .rate
      | .clip => summaryBytes .clip
      | _ => [] := by
    simp only [← bytes]
    cases c <;> rfl
  refine ⟨?_, fun payload named args => ⟨⟨a.cleared named s.settings.enables[p], hasCause_cleared _ _,
    cleared_summaries _ _ _, lineOf_iff _ _, ?_⟩, ⟨lineOf a.pending named, lineOf_iff _ _, ?_⟩⟩, fun c1 c0 above =>
    ⟨exec_attnClear_badArg ready (causeArgs_above above), exec_attnEnable_badArg ready (causeArgs_above above)⟩,
    fun b rest => takeRequest_ready ready .., fun payload length =>
    ⟨exec_attnClear_badArg ready (causeArgs_length length), exec_attnEnable_badArg ready (causeArgs_length length)⟩⟩
  · refine (takeRequest_ready ready ..).trans (congrArg (fun entries => Host.Outcome.next (s.answer p 0xE8#8
      { status := .ok
        body := setBytes a.pending ++ setBytes s.settings.enables[p] ++
          [if a.line then 1#8 else 0#8, BitVec.ofNat 8 listed.length] ++ listed.flatMap entries })) (funext entry))
  · change takeRequest p .attnClear (attnClear p payload) s = _
    rw [takeRequest_ready ready, attnClear, args]
    exact congrArg (fun entries => Host.Outcome.next
      (State.answer { s with attention := s.attention.set p (a.cleared named s.settings.enables[p]) } p 0xE9#8
        { status := .ok
          body := ([HitCause.limit, .plan, .rate, .clip].filter fun h : HitCause =>
              hasCause named h.cause && hasCause a.pending h.cause).flatMap entries ++
            setBytes (a.pending &&& ~~~named) })) (funext bytes)
  · have record : (s.setEnable p named).attention[p] = a.withPending a.pending named := get_set_same ..
    change takeRequest p .attnEnable (attnEnable p payload) s = _
    rw [takeRequest_ready ready, attnEnable, args]
    simp only [record]
    rfl

end Sys2Proof.Machine

/-! # Proofs: placement and pages (chapters 5 and 6) -/

namespace Sys2Proof.Machine

variable {windows : Vector (Option Window) 8}

theorem interval_lt_of_le_of_lt {a b c : Interval} (h : a ≤ b) (h' : b < c) : a < c :=
  BitVec.lt_def.2 (Nat.lt_of_le_of_lt (BitVec.le_def.1 h) (BitVec.lt_def.1 h'))

/-! ## The horizon (R111) -/

/-- The greatest end among the HELD windows of some slots, none when none is HELD. -/
def IsHorizon (windows : Vector (Option Window) 8) (l : List WindowSlot) : Option Interval → Prop
  | none => ∀ w ∈ l, windows[w] = none
  | some h => (∃ w ∈ l, ∃ v : Window, windows[w] = some v ∧ v.finish = h) ∧
      ∀ w ∈ l, ∀ v : Window, windows[w] = some v → v.finish ≤ h

/-- One slot's part in the horizon. -/
def horizonStep (windows : Vector (Option Window) 8) (best : Option Interval) (w : WindowSlot) : Option Interval :=
  match windows[w], best with
  | some v, none => some v.finish
  | some v, some b => some (if b < v.finish then v.finish else b)
  | none, b => b

theorem horizonStep_isHorizon {l : List WindowSlot} {best : Option Interval} (h : IsHorizon windows l best)
    (w : WindowSlot) : IsHorizon windows (l ++ [w]) (horizonStep windows best w) := by
  have mem {x : WindowSlot} : x ∈ l ++ [w] ↔ x ∈ l ∨ x = w := by simp
  cases held : windows[w] with
  | none =>
    have step : horizonStep windows best w = best := by simp only [horizonStep, held]
    rw [step]
    cases best with
    | none => exact fun x hx => (mem.1 hx).elim (h x) fun eq => eq ▸ held
    | some b =>
      obtain ⟨⟨x, hx, own⟩, greatest⟩ := h
      refine ⟨⟨x, mem.2 (.inl hx), own⟩, fun y hy v some => (mem.1 hy).elim (greatest y · v some) fun eq => ?_⟩
      rw [eq, held] at some
      cases some
  | some v =>
    cases best with
    | none =>
      have step : horizonStep windows none w = some v.finish := by simp only [horizonStep, held]
      rw [step]
      refine ⟨⟨w, mem.2 (.inr rfl), v, held, rfl⟩, fun y hy u some => ?_⟩
      rcases mem.1 hy with before | eq
      · rw [h y before] at some
        cases some
      · rw [eq, held] at some
        cases some
        exact BitVec.le_refl _
    | some b =>
      obtain ⟨⟨x, hx, u, own, finish⟩, greatest⟩ := h
      have step : horizonStep windows (some b) w = some (if b < v.finish then v.finish else b) := by
        simp only [horizonStep, held]
      rw [step]
      refine ⟨?_, fun y hy t some => ?_⟩
      · split
        · exact ⟨w, mem.2 (.inr rfl), v, held, rfl⟩
        · exact ⟨x, mem.2 (.inl hx), u, own, finish⟩
      · rcases mem.1 hy with before | eq
        · have below := greatest y before t some
          split
          · next later => exact BitVec.le_trans below (BitVec.le_of_lt later)
          · exact below
        · rw [eq, held] at some
          cases some
          split
          · exact BitVec.le_refl _
          · next notLater => exact BitVec.not_lt.1 notLater

theorem horizon_isHorizon (windows : Vector (Option Window) 8) :
    IsHorizon windows (List.finRange 8) (horizon windows) := by
  have upTo (l : List WindowSlot) : IsHorizon windows l (l.foldl (horizonStep windows) none) := by
    induction l using List.reverseRecOn with
    | nil => exact fun w none => nomatch none
    | append_singleton l w ih =>
      rw [List.foldl_append]
      exact horizonStep_isHorizon ih w
  exact upTo (List.finRange 8)

theorem horizon_none (h : horizon windows = none) (w : WindowSlot) : windows[w] = none := by
  have spec := horizon_isHorizon windows
  rw [h] at spec
  exact spec w (List.mem_finRange w)

theorem horizon_some {i : Interval} (h : horizon windows = some i) :
    (∃ (w : WindowSlot) (v : Window), windows[w] = some v ∧ v.finish = i) ∧
      ∀ (w : WindowSlot) (v : Window), windows[w] = some v → v.finish ≤ i := by
  have spec := horizon_isHorizon windows
  rw [h] at spec
  obtain ⟨⟨w, _, v, held, finish⟩, greatest⟩ := spec
  exact ⟨⟨w, v, held, finish⟩, fun x => greatest x (List.mem_finRange x)⟩

theorem horizon_of_empty (h : ∀ w : WindowSlot, windows[w] = none) : horizon windows = none := by
  cases found : horizon windows with
  | none => rfl
  | some i =>
    obtain ⟨⟨w, v, held, _⟩, _⟩ := horizon_some found
    rw [h w] at held
    cases held

/-! ## The best candidate (R112) -/

theorem isCandidate_iff {lists : Vector (List QueueEntry) 8} {d : Interval} {w : WindowSlot} :
    isCandidate windows lists d w = true ↔
      ∃ v : Window, windows[w] = some v ∧ v.finish ≤ d ∧ lists[w].length < v.capacity.toNat := by
  cases held : windows[w] <;> simp [isCandidate, held]

theorem finishOf_held {w : WindowSlot} {v : Window} (h : windows[w] = some v) : finishOf windows w = v.finish := by
  simp only [finishOf, h]

/-- One candidate against the best so far. -/
def betterSlot (windows : Vector (Option Window) 8) (best : Option WindowSlot) (w : WindowSlot) : Option WindowSlot :=
  match best with
  | none => some w
  | some b => if finishOf windows b < finishOf windows w then some w else some b

/-- The slot of greatest end among some, the lowest of them. -/
def IsBest (windows : Vector (Option Window) 8) (l : List WindowSlot) : Option WindowSlot → Prop
  | none => l = []
  | some w => w ∈ l ∧ ∀ x ∈ l, finishOf windows x ≤ finishOf windows w ∧
      (finishOf windows x = finishOf windows w → w ≤ x)

theorem betterSlots_isBest {l : List WindowSlot} (ascending : l.Pairwise (· < ·)) :
    IsBest windows l (l.foldl (betterSlot windows) none) := by
  induction l using List.reverseRecOn with
  | nil => exact rfl
  | append_singleton l y ih =>
    obtain ⟨before, _, below⟩ := List.pairwise_append.1 ascending
    have best := ih before
    have mem {x : WindowSlot} : x ∈ l ++ [y] ↔ x ∈ l ∨ x = y := by simp
    rw [List.foldl_append]
    cases found : l.foldl (betterSlot windows) none with
    | none =>
      rw [found] at best
      have empty : l = [] := best
      subst empty
      exact ⟨mem.2 (.inr rfl), fun x hx => (mem.1 hx).elim (nomatch ·) fun eq =>
        eq ▸ ⟨BitVec.le_refl _, fun _ => le_rfl⟩⟩
    | some b =>
      rw [found] at best
      obtain ⟨member, greatest⟩ := best
      have lower : b < y := below b member y (List.mem_singleton_self y)
      have step : [y].foldl (betterSlot windows) (some b) =
          if finishOf windows b < finishOf windows y then some y else some b := rfl
      rw [step]
      split
      · next later =>
        refine ⟨mem.2 (.inr rfl), fun x hx => (mem.1 hx).elim (fun hx => ?_) fun eq =>
          eq ▸ ⟨BitVec.le_refl _, fun _ => le_rfl⟩⟩
        have less := interval_lt_of_le_of_lt (greatest x hx).1 later
        exact ⟨BitVec.le_of_lt less, fun eq => (BitVec.ne_of_lt less eq).elim⟩
      · next notLater =>
        exact ⟨mem.2 (.inl member), fun x hx => (mem.1 hx).elim (greatest x) fun eq =>
          eq ▸ ⟨BitVec.not_lt.1 notLater, fun _ => lower.le⟩⟩

theorem bestCandidate_isBest (windows : Vector (Option Window) 8) (lists : Vector (List QueueEntry) 8) (d : Interval) :
    IsBest windows ((List.finRange 8).filter (isCandidate windows lists d)) (bestCandidate windows lists d) :=
  betterSlots_isBest ((List.pairwise_lt_finRange 8).filter _)

theorem bestCandidate_none_iff {lists : Vector (List QueueEntry) 8} {d : Interval} :
    bestCandidate windows lists d = none ↔ ∀ w, ¬ isCandidate windows lists d w = true := by
  have best := bestCandidate_isBest windows lists d
  cases found : bestCandidate windows lists d with
  | none =>
    rw [found] at best
    refine iff_of_true rfl fun w candidate => ?_
    have empty : (List.finRange 8).filter (isCandidate windows lists d) = [] := best
    have member := List.mem_filter.2 ⟨List.mem_finRange w, candidate⟩
    rw [empty] at member
    cases member
  | some w =>
    rw [found] at best
    exact iff_of_false nofun fun none => none w (List.mem_filter.1 best.1).2

theorem bestCandidate_some {lists : Vector (List QueueEntry) 8} {d : Interval} {w : WindowSlot}
    (h : bestCandidate windows lists d = some w) :
    isCandidate windows lists d w = true ∧ ∀ x, isCandidate windows lists d x = true →
      finishOf windows x ≤ finishOf windows w ∧ (finishOf windows x = finishOf windows w → w ≤ x) := by
  have best := bestCandidate_isBest windows lists d
  rw [h] at best
  exact ⟨(List.mem_filter.1 best.1).2, fun x hx => best.2 x (List.mem_filter.2 ⟨List.mem_finRange x, hx⟩)⟩

/-! ## One entry (R111 to R113) -/

/-- An entry's due is past every HELD end (R111). -/
def PastHorizon (windows : Vector (Option Window) 8) (d : Interval) : Prop :=
  ∀ (w : WindowSlot) (v : Window), windows[w] = some v → v.finish < d

theorem pastHorizon_iff {d : Interval} :
    PastHorizon windows d ↔ (match horizon windows with | none => true | some h => decide (h < d)) = true := by
  cases found : horizon windows with
  | none =>
    refine iff_of_true (fun w v held => ?_) rfl
    rw [horizon_none found w] at held
    cases held
  | some h =>
    obtain ⟨⟨w, v, held, finish⟩, greatest⟩ := horizon_some found
    rw [decide_eq_true_iff]
    exact ⟨fun past => finish ▸ past w v held, fun later x u own => interval_lt_of_le_of_lt (greatest x u own) later⟩

section Entry

variable {p : Placement} {x : QueueEntry}

theorem placeEntry_past (h : PastHorizon windows x.due) :
    placeEntry windows (horizon windows) p x = { p with beyond := p.beyond + 1 } := if_pos (pastHorizon_iff.1 h)

theorem placeEntry_within (h : ¬ PastHorizon windows x.due) :
    placeEntry windows (horizon windows) p x =
      match bestCandidate windows p.lists x.due with
      | some w => { p with lists := p.lists.set w (p.lists[w] ++ [x]) }
      | none =>
        if p.unplaced.length < Config.maxUnplaced then { p with unplaced := p.unplaced ++ [x] }
        else { p with overflow := p.overflow + 1 } := if_neg (mt pastHorizon_iff.2 h)

theorem placeEntry_placed {w : WindowSlot} (h : ¬ PastHorizon windows x.due)
    (best : bestCandidate windows p.lists x.due = some w) :
    placeEntry windows (horizon windows) p x = { p with lists := p.lists.set w (p.lists[w] ++ [x]) } := by
  rw [placeEntry_within h, best]

theorem placeEntry_unplaced (h : ¬ PastHorizon windows x.due) (best : bestCandidate windows p.lists x.due = none)
    (room : p.unplaced.length < 32) :
    placeEntry windows (horizon windows) p x = { p with unplaced := p.unplaced ++ [x] } := by
  rw [placeEntry_within h, best]
  exact if_pos room

theorem placeEntry_overflow (h : ¬ PastHorizon windows x.due) (best : bestCandidate windows p.lists x.due = none)
    (full : ¬ p.unplaced.length < 32) :
    placeEntry windows (horizon windows) p x = { p with overflow := p.overflow + 1 } := by
  rw [placeEntry_within h, best]
  exact if_neg full

/-- The four places of an entry. -/
theorem placeEntry_cases (windows : Vector (Option Window) 8) (p : Placement) (x : QueueEntry) :
    (PastHorizon windows x.due ∧ placeEntry windows (horizon windows) p x = { p with beyond := p.beyond + 1 }) ∨
    (¬ PastHorizon windows x.due ∧ ∃ w, bestCandidate windows p.lists x.due = some w ∧
      placeEntry windows (horizon windows) p x = { p with lists := p.lists.set w (p.lists[w] ++ [x]) }) ∨
    (¬ PastHorizon windows x.due ∧ p.unplaced.length < 32 ∧
      placeEntry windows (horizon windows) p x = { p with unplaced := p.unplaced ++ [x] }) ∨
    (¬ PastHorizon windows x.due ∧ ¬ p.unplaced.length < 32 ∧
      placeEntry windows (horizon windows) p x = { p with overflow := p.overflow + 1 }) := by
  by_cases past : PastHorizon windows x.due
  · exact .inl ⟨past, placeEntry_past past⟩
  · cases best : bestCandidate windows p.lists x.due with
    | some w => exact .inr (.inl ⟨past, w, rfl, placeEntry_placed past best⟩)
    | none =>
      by_cases room : p.unplaced.length < 32
      · exact .inr (.inr (.inl ⟨past, room, placeEntry_unplaced past best room⟩))
      · exact .inr (.inr (.inr ⟨past, room, placeEntry_overflow past best room⟩))

end Entry

/-! ## The walk -/

theorem placedTotal_append (lists : Vector (List QueueEntry) 8) (w : WindowSlot) (x : QueueEntry) :
    placedTotal (lists.set w (lists[w] ++ [x])) = placedTotal lists + 1 := by
  have length (k : WindowSlot) : (lists.set w (lists[w] ++ [x]))[k].length =
      lists[k].length + if k = w then 1 else 0 := by
    rw [get_set]
    by_cases own : w = k
    · subst own
      simp
    · simp [own, Ne.symm own]
  simp only [placedTotal, length, ← Fin.sum_univ_def, Finset.sum_add_distrib, Finset.sum_ite_eq', Finset.mem_univ,
    if_true]

/-- What the walk keeps of every list and count (R104, R112, R113). -/
structure PlacementSound (windows : Vector (Option Window) 8) (queue : List QueueEntry) (p : Placement) : Prop where
  empty : ∀ w : WindowSlot, windows[w] = none → p.lists[w] = []
  capacity : ∀ (w : WindowSlot) (v : Window), windows[w] = some v → p.lists[w].length ≤ v.capacity.toNat
  due : ∀ (w : WindowSlot) (v : Window), windows[w] = some v → ∀ x ∈ p.lists[w], v.finish ≤ x.due
  order : ∀ w : WindowSlot, p.lists[w].Sublist queue
  unplacedOrder : p.unplaced.Sublist queue
  unplaced : p.unplaced.length ≤ 32
  overflow : 0 < p.overflow → p.unplaced.length = 32
  total : placedTotal p.lists + (p.unplaced.length + p.overflow) + p.beyond = queue.length
  beyond : ∀ h, horizon windows = some h → p.beyond = (queue.filter fun x => h < x.due).length

theorem placement_empty_sound (windows : Vector (Option Window) 8) : PlacementSound windows [] Placement.empty where
  empty w _ := get_replicate ..
  capacity w v _ := by
    rw [show Placement.empty.lists[w] = [] from get_replicate ..]
    exact Nat.zero_le _
  due w v _ x hx := by
    rw [show Placement.empty.lists[w] = [] from get_replicate ..] at hx
    cases hx
  order w := by
    rw [show Placement.empty.lists[w] = [] from get_replicate ..]
  unplacedOrder := .slnil
  unplaced := Nat.zero_le _
  overflow none := (Nat.lt_irrefl _ none).elim
  total := by decide
  beyond _ _ := rfl

theorem pastHorizon_of_some {h d : Interval} (found : horizon windows = some h) : PastHorizon windows d ↔ h < d := by
  rw [pastHorizon_iff, found, decide_eq_true_iff]

theorem PlacementSound.next {queue : List QueueEntry} {p : Placement} (sound : PlacementSound windows queue p)
    (x : QueueEntry) : PlacementSound windows (queue ++ [x]) (placeEntry windows (horizon windows) p x) := by
  have longer {l : List QueueEntry} (h : l.Sublist queue) : l.Sublist (queue ++ [x]) :=
    h.trans (List.sublist_append_left ..)
  have countPast (past : PastHorizon windows x.due) {h : Interval} (found : horizon windows = some h) :
      p.beyond + 1 = ((queue ++ [x]).filter fun x => h < x.due).length := by
    have later := (pastHorizon_of_some found).1 past
    rw [List.filter_append, List.length_append, ← sound.beyond h found]
    simp [later]
  have countWithin (within : ¬ PastHorizon windows x.due) {h : Interval} (found : horizon windows = some h) :
      p.beyond = ((queue ++ [x]).filter fun x => h < x.due).length := by
    have notLater := mt (pastHorizon_of_some found).2 within
    rw [List.filter_append, List.length_append, ← sound.beyond h found]
    simp [BitVec.not_lt.1 notLater]
  have length : (queue ++ [x]).length = queue.length + 1 := by simp
  have total := sound.total
  rcases placeEntry_cases windows p x with ⟨past, placed⟩ | ⟨past, w, best, placed⟩ | ⟨past, room, placed⟩ |
    ⟨past, full, placed⟩ <;> rw [placed]
  · refine ⟨sound.empty, sound.capacity, sound.due, fun w => longer (sound.order w), longer sound.unplacedOrder,
      sound.unplaced, sound.overflow, ?_, fun h found => countPast past found⟩
    rw [length]
    change placedTotal p.lists + (p.unplaced.length + p.overflow) + (p.beyond + 1) = _
    omega
  · obtain ⟨v, held, ends, room⟩ := isCandidate_iff.1 (bestCandidate_some best).1
    have own : (p.lists.set w (p.lists[w] ++ [x]))[w] = p.lists[w] ++ [x] := get_set_same ..
    have other {k : WindowSlot} (hk : k ≠ w) : (p.lists.set w (p.lists[w] ++ [x]))[k] = p.lists[k] :=
      get_set_other _ _ hk.symm
    refine ⟨fun k none => ?_, fun k u some => ?_, fun k u some y hy => ?_, fun k => ?_, longer sound.unplacedOrder,
      sound.unplaced, sound.overflow, ?_, fun h found => countWithin past found⟩
    · have notOwn : k ≠ w := fun eq => by rw [eq, held] at none; cases none
      exact (other notOwn).trans (sound.empty k none)
    · by_cases eq : k = w
      · subst eq
        cases held.symm.trans some
        change (p.lists.set k (p.lists[k] ++ [x]))[k].length ≤ _
        rw [own, List.length_append]
        exact room
      · exact (other eq).symm ▸ sound.capacity k u some
    · by_cases eq : k = w
      · subst eq
        cases held.symm.trans some
        change y ∈ (p.lists.set k (p.lists[k] ++ [x]))[k] at hy
        rw [own] at hy
        rcases List.mem_append.1 hy with before | new
        · exact sound.due k v held y before
        · rw [List.mem_singleton.1 new]
          exact ends
      · change y ∈ (p.lists.set w (p.lists[w] ++ [x]))[k] at hy
        rw [other eq] at hy
        exact sound.due k u some y hy
    · change (p.lists.set w (p.lists[w] ++ [x]))[k].Sublist _
      by_cases eq : k = w
      · subst eq
        rw [own]
        exact (sound.order k).append_right [x]
      · rw [other eq]
        exact longer (sound.order k)
    · rw [length]
      change placedTotal (p.lists.set w (p.lists[w] ++ [x])) + (p.unplaced.length + p.overflow) + p.beyond = _
      rw [placedTotal_append]
      omega
  · refine ⟨sound.empty, sound.capacity, sound.due, fun w => longer (sound.order w), ?_, ?_, fun some => ?_, ?_,
      fun h found => countWithin past found⟩
    · exact sound.unplacedOrder.append_right [x]
    · rw [List.length_append]
      exact room
    · have := sound.overflow some
      omega
    · rw [length]
      change placedTotal p.lists + ((p.unplaced ++ [x]).length + p.overflow) + p.beyond = _
      rw [List.length_append, List.length_singleton]
      omega
  · refine ⟨sound.empty, sound.capacity, sound.due, fun w => longer (sound.order w), longer sound.unplacedOrder,
      sound.unplaced, fun _ => ?_, ?_, fun h found => countWithin past found⟩
    · have := sound.unplaced
      change p.unplaced.length = 32
      omega
    · rw [length]
      change placedTotal p.lists + (p.unplaced.length + (p.overflow + 1)) + p.beyond = _
      omega

theorem placeAll_sound (windows : Vector (Option Window) 8) (queue : List QueueEntry) :
    PlacementSound windows queue (placeAll windows queue) := by
  induction queue using List.reverseRecOn with
  | nil => exact placement_empty_sound windows
  | append_singleton queue x ih =>
    rw [placeAll_append]
    exact ih.next x

/-- Without a HELD window every entry counts beyond (R111). -/
theorem placeAll_of_empty (h : ∀ w : WindowSlot, windows[w] = none) (queue : List QueueEntry) :
    placeAll windows queue = { Placement.empty with beyond := queue.length } := by
  induction queue using List.reverseRecOn with
  | nil => rfl
  | append_singleton queue x ih =>
    have past : PastHorizon windows x.due := fun w v held => by
      rw [h w] at held
      cases held
    rw [placeAll_append, placeEntry_past past, ih, List.length_append]
    rfl

/-! ## The obligations -/

/-- Settles O35: the totals are part of what the walk keeps. -/
theorem placementAccountsForEveryEntry : Obligations.PlacementAccountsForEveryEntry := by
  intro windows queue placed
  have sound := placeAll_sound windows queue
  refine ⟨fun empty => ?_, horizon_none, fun h found => ?_, sound.total⟩
  · have placed_eq : placed = _ := placeAll_of_empty empty queue
    rw [placed_eq]
    exact ⟨horizon_of_empty empty, rfl, fun w => get_replicate .., rfl, rfl⟩
  · obtain ⟨reached, greatest⟩ := horizon_some found
    exact ⟨reached, greatest, sound.beyond h found⟩

/-- Settles O36: what the walk keeps, the best candidate, and the walk's last entry. -/
theorem placementRespectsTheWindows : Obligations.PlacementRespectsTheWindows := by
  intro windows queue placed
  have sound := placeAll_sound windows queue
  refine ⟨sound.empty, fun w v held => ⟨sound.capacity w v held, sound.due w v held, sound.order w⟩,
    sound.unplacedOrder, sound.unplaced, sound.overflow, fun lists d => ?_, rfl, fun x => ?_⟩
  · intro candidate
    have isCandidate {x : WindowSlot} : isCandidate windows lists d x = true ↔ ∃ v, candidate x v := isCandidate_iff
    refine ⟨fun w best => ?_, fun ⟨x, v, own⟩ => ?_⟩
    · obtain ⟨own, greatest⟩ := bestCandidate_some best
      obtain ⟨v, ofW⟩ := isCandidate.1 own
      refine ⟨v, ofW, fun x u ofX => ?_⟩
      have compared := greatest x (isCandidate.2 ⟨u, ofX⟩)
      rwa [finishOf_held ofX.1, finishOf_held ofW.1] at compared
    · cases best : bestCandidate windows lists d with
      | some w => exact ⟨w, rfl⟩
      | none => exact (bestCandidate_none_iff.1 best x (isCandidate.2 ⟨v, own⟩)).elim
  · intro next past
    have next_eq : next = placeEntry windows (horizon windows) placed x := placeAll_append ..
    rw [next_eq]
    exact ⟨placeEntry_past, fun within => ⟨fun w best => placeEntry_placed within best, fun best =>
      ⟨placeEntry_unplaced within best, fun full => placeEntry_overflow within best (by omega)⟩⟩⟩

/-! ## Pages (R94, R119) -/

theorem entryBytes_eq (l : List QueueEntry) :
    entryBytes l = l.flatMap fun x => bytes16 (BitVec.ofNat 16 x.index.val) ++ bytes32 x.due := rfl

/-- Settles O31: both requests read and answer. -/
theorem queueAndPlanAreReadInPages : Obligations.QueueAndPlanAreReadInPages := by
  intro s p payload entriesOf
  refine ⟨fun starting => ⟨takeRequest_starting starting .., takeRequest_starting starting ..⟩, fun ready =>
    ⟨fun none => ?_, fun m position args => ⟨by rw [List.length_take, List.length_drop], ?_⟩, fun none => ?_,
      fun m list position args => ?_⟩⟩
  · refine (takeRequest_ready ready ..).trans ?_
    simp only [readOnly, queueAnswer, none]
    rfl
  · refine (takeRequest_ready ready ..).trans ?_
    simp only [readOnly, queueAnswer, args]
    rfl
  · refine (takeRequest_ready ready ..).trans ?_
    simp only [readOnly, planAnswer, none]
    rfl
  · intro plan entries page
    have list_eq : plan.list list = entries := by cases list <;> rfl
    refine ⟨by rw [List.length_take, List.length_drop], (takeRequest_ready ready ..).trans ?_⟩
    simp only [readOnly, planAnswer, args]
    rw [show s.plans[m].list list = entries from list_eq]
    have state : s.plans[m].state.code = match plan.state with | .none => 0#8 | .fresh => 1#8 | .stale => 2#8 := by
      simp only [plan]
      cases s.plans[m].state <;> rfl
    have stamp : dueBytes s.plans[m].stamp = match plan.stamp with
        | none => [0#8, 0#8, 0#8, 0#8, 0#8]
        | some d => 1#8 :: bytes32 d := by
      simp only [plan]
      cases s.plans[m].stamp <;> rfl
    exact congrArg₂ (fun code due => Host.Outcome.next (s.answer p 0xC3#8
      { status := .ok
        body := code :: (due ++ [BitVec.ofNat 8 entries.length, BitVec.ofNat 8 page.length] ++ entriesOf page) }))
      state stamp

end Sys2Proof.Machine

/-! # Proofs: links and frames (chapter 9) -/

namespace Sys2Proof.Machine

/-! ## The ports' own rows (R161 to R165) -/

theorem frameSum_check (kind : Byte) (payload : List Byte) :
    payload.foldl (· + ·) (kind + BitVec.ofNat 8 payload.length) + (0 - frameSum kind payload) = 0 := by
  change frameSum kind payload + _ = _
  exact add_sub_cancel (frameSum kind payload) 0

/-- Settles O39, row by row. -/
theorem linkRowsActOnTheirPort : Obligations.LinkRowsActOnTheirPort := by
  intro s p replied
  refine ⟨fun reason => ?_, fun kind => rfl, rfl, fun reply preparing =>
    ⟨0 - frameSum reply.kind reply.payload, frameSum_check .., ?_⟩⟩
  · cases reason <;> rfl
  · change execReplyReady p s = _
    simp only [execReplyReady, preparing]
    rfl

/-! ## Start-up (R162) -/

/-- Settles O11: the second gate of R162 stands before every request's checks. -/
theorem startUpAnswersStarting : Obligations.StartUpAnswersStarting := by
  intro s p payload k starting
  by_cases restart : k = .restart
  · subst restart
    rcases exec_restart_cases p payload s with ⟨ready, _⟩ | refused
    · cases starting.symm.trans ready
    · exact refused.trans (takeRequest_starting starting ..)
  · exact (exec_request restart ..).trans (takeRequest_starting starting ..)

/-! ## One byte (R159 to R164) -/

section LinkByte

variable {s : State} {p : Port} {b : Byte} {rx : Receiver}

theorem exec_linkByte_nothing (h : s.links[p].rx.take b = (rx, .nothing)) :
    exec (.linkByte p b) s = .next (s.setLink p (s.links[p].exchange b)) := by
  change execLinkByte p b s = _
  simp only [execLinkByte, h]

theorem exec_linkByte_failed {reason : FrameReason} (h : s.links[p].rx.take b = (rx, .failed reason)) :
    exec (.linkByte p b) s = execFrameError p reason (s.setLink p (s.links[p].exchange b)) := by
  change execLinkByte p b s = _
  simp only [execLinkByte, h]

theorem exec_linkByte_complete {kind : Byte} {payload : List Byte}
    (h : s.links[p].rx.take b = (rx, .complete kind payload)) :
    exec (.linkByte p b) s = takeFrame p kind payload (s.setLink p (s.links[p].exchange b)) := by
  change execLinkByte p b s = _
  simp only [execLinkByte, h]

end LinkByte

theorem clock_sending {frame : List Byte} {next : Nat} {x : Byte} (h : frame[next]? = some x) :
    (Transmitter.sending frame next).clock =
      (x, if next + 1 < frame.length then .sending frame (next + 1) else .fill) := by
  simp only [Transmitter.clock, h]

theorem clock_idle {tx : Transmitter} (h : ∀ frame next, tx ≠ .sending frame next) :
    tx.clock = (Config.fillByte, tx) := by
  cases tx with
  | sending frame next => exact (h frame next rfl).elim
  | fill | preparing => rfl

/-- Settles O41: the byte moves the link by `exchange`, and its event decides the row. -/
theorem linkByteMovesOneByteEachWay : Obligations.LinkByteMovesOneByteEachWay := by
  intro s p b l
  have own : (s.setLink p (l.exchange b)).links[p] = l.exchange b := get_set_same ..
  refine ⟨s.setLink p (l.exchange b), ?_, ?_, fun frame next x tx some => ?_, fun idle => ?_, fun rx h => ?_,
    fun rx reason h => exec_linkByte_failed h, fun rx kind payload h => ⟨fun k known => ?_, fun unknown => ?_⟩⟩
  · rw [own]
    rfl
  · rw [own]
    rfl
  · have clock : l.tx.clock = _ := tx ▸ clock_sending some
    rw [own]
    change Option.some l.tx.clock.1 = _ ∧ (_ → l.tx.clock.2 = _) ∧ (_ → l.tx.clock.2 = _)
    rw [clock]
    exact ⟨rfl, fun more => if_pos more, fun last => if_neg (by omega)⟩
  · rw [own]
    change Option.some l.tx.clock.1 = _ ∧ l.tx.clock.2 = _
    rw [clock_idle idle]
    exact ⟨rfl, rfl⟩
  · refine ⟨?_, exec_linkByte_nothing h⟩
    rw [own]
    exact congrArg Prod.fst h
  · exact (exec_linkByte_complete h).trans (takeFrame_known known ..)
  · exact (exec_linkByte_complete h).trans (takeFrame_unknown unknown ..)

/-! ## Frames received (R160, R161, R163) -/

/-- A receiver that takes bytes in turn, and what each completed. -/
def Receiver.feed (rx : Receiver) : List Byte → Receiver × List FrameEvent
  | [] => (rx, [])
  | b :: rest => (((rx.take b).1.feed rest).1, (rx.take b).2 :: ((rx.take b).1.feed rest).2)

theorem feed_append (rx : Receiver) (l l' : List Byte) :
    rx.feed (l ++ l') = (((rx.feed l).1.feed l').1, (rx.feed l).2 ++ ((rx.feed l).1.feed l').2) := by
  induction l generalizing rx with
  | nil => rfl
  | cons b rest ih => simp only [List.cons_append, Receiver.feed, ih]

theorem feed_eq_foldl (rx : Receiver) (events : List FrameEvent) (l : List Byte) :
    l.foldl (fun acc b => ((acc.1.take b).1, acc.2 ++ [(acc.1.take b).2])) (rx, events) =
      ((rx.feed l).1, events ++ (rx.feed l).2) := by
  induction l generalizing rx events with
  | nil => simp [Receiver.feed]
  | cons b rest ih => rw [List.foldl_cons, ih, Receiver.feed, List.append_assoc, List.singleton_append]

/-- The payload bytes are buffered until their number is reached (R160). -/
theorem feed_payload {kind len sum : Byte} {bytes rest : List Byte} (more : rest ≠ [])
    (length : bytes.length + rest.length = len.toNat) :
    (Receiver.payload kind len bytes sum).feed rest =
      (.check kind (bytes ++ rest) (rest.foldl (· + ·) sum), List.replicate rest.length .nothing) := by
  induction rest generalizing bytes sum with
  | nil => exact (more rfl).elim
  | cons b rest ih =>
    cases rest with
    | nil =>
      have last : len.toNat ≤ bytes.length + 1 := by
        simp at length
        omega
      simp [Receiver.feed, Receiver.take, last]
    | cons c rest =>
      have notLast : ¬ len.toNat ≤ bytes.length + 1 := by
        simp at length
        omega
      have step : (Receiver.payload kind len bytes sum).take b =
          (.payload kind len (bytes ++ [b]) (sum + b), .nothing) := if_neg notLast
      have later := ih (bytes := bytes ++ [b]) (sum := sum + b) nofun (by simp at length ⊢; omega)
      rw [Receiver.feed, step, later]
      simp [List.replicate_succ]

/-- A frame's bytes up to its payload's end (R160). -/
theorem feed_header (kind : Byte) {payload : List Byte} (fits : payload.length ≤ 56) :
    Receiver.hunt.feed ([0xD2#8, kind, BitVec.ofNat 8 payload.length] ++ payload) =
      (.check kind payload (frameSum kind payload), List.replicate (payload.length + 3) .nothing) := by
  have length : (BitVec.ofNat 8 payload.length).toNat = payload.length := by
    rw [BitVec.toNat_ofNat, Nat.mod_eq_of_lt (by omega)]
  have short : ¬ Config.maxRequestPayload < (BitVec.ofNat 8 payload.length).toNat := by
    rw [length]
    exact Nat.not_lt.2 fits
  have opened : Receiver.hunt.feed [0xD2#8, kind] = (.len kind kind, [.nothing, .nothing]) := rfl
  have split : [0xD2#8, kind, BitVec.ofNat 8 payload.length] ++ payload =
      [0xD2#8, kind] ++ (BitVec.ofNat 8 payload.length :: payload) := rfl
  rw [split, feed_append, opened]
  cases payload with
  | nil => rfl
  | cons b rest =>
    have some : ¬ BitVec.ofNat 8 (b :: rest).length = 0 := fun zero => by
      rw [zero] at length
      simp at length
    have step : (Receiver.len kind kind).take (BitVec.ofNat 8 (b :: rest).length) =
        (.payload kind (BitVec.ofNat 8 (b :: rest).length) [] (kind + BitVec.ofNat 8 (b :: rest).length),
          .nothing) := by
      simp only [Receiver.take, if_neg short, if_neg some]
    rw [Receiver.feed, step, feed_payload (rest := b :: rest) (bytes := []) (by simp) (by rw [length]; simp)]
    rfl

/-- A whole frame, by its CHECK and its END byte (R161). -/
theorem feed_frame (kind : Byte) {payload : List Byte} (fits : payload.length ≤ 56) (check mark : Byte) :
    Receiver.hunt.feed ([0xD2#8, kind, BitVec.ofNat 8 payload.length] ++ payload ++ [check, mark]) =
      (.hunt, List.replicate (payload.length + 4) .nothing ++
        [if mark ≠ 0x2D#8 then .failed .endMark
          else if frameSum kind payload + check ≠ 0 then .failed .check
          else .complete kind payload]) := by
  rw [feed_append, feed_header kind fits]
  simp only [Receiver.feed, Receiver.take, List.replicate_succ', List.append_assoc]
  rfl

theorem frameSum_eq (kind : Byte) (payload : List Byte) :
    frameSum kind payload = kind + BitVec.ofNat 8 payload.length + payload.foldl (· + ·) 0 := by
  have shift (l : List Byte) (a b : Byte) : l.foldl (· + ·) (a + b) = a + l.foldl (· + ·) b := by
    induction l generalizing b with
    | nil => rfl
    | cons x rest ih => rw [List.foldl_cons, List.foldl_cons, BitVec.add_assoc, ih]
  have whole := shift payload (kind + BitVec.ofNat 8 payload.length) 0
  simpa [frameSum, byteOf] using whole

/-- Settles O42: the event of a frame's last byte is decided by its END byte and its CHECK. -/
theorem framesAreReceivedAsSent : Obligations.FramesAreReceivedAsSent := by
  unfold Obligations.FramesAreReceivedAsSent
  intro feed kind payload
  have feed_eq (rx : Receiver) (l : List Byte) : feed rx l = rx.feed l := feed_eq_foldl rx [] l
  simp only [feed_eq]
  refine ⟨fun fits => ⟨?_, fun check mark wrong => ?_, fun check wrong => ?_⟩, fun len long => ?_⟩
  · have frame := feed_frame kind fits (0 - frameSum kind payload) 0x2D#8
    have sum : frameSum kind payload + (0 - frameSum kind payload) = 0 := frameSum_check kind payload
    rw [if_neg (not_not.2 rfl), if_neg (not_not.2 sum)] at frame
    rw [← frame]
    simp [frameBytes]
    rfl
  · rw [feed_frame kind fits, if_pos wrong]
  · rw [feed_frame kind fits, if_neg (not_not.2 rfl), if_pos (by rwa [frameSum_eq])]
  · have above : Config.maxRequestPayload < len.toNat := long
    have step : (Receiver.len kind kind).take len = (.hunt, .failed .length) := if_pos above
    change (((Receiver.len kind kind).take len).1, [FrameEvent.nothing, .nothing,
      ((Receiver.len kind kind).take len).2]) = _
    rw [step]

/-! ## A block leaves every link (chapter 9) -/

theorem modifyElement_links {α : Type} (p : Port) (role : Role) (args : Option (ElementIx × Generation × α))
    {act : ElementIx → Element → α → State → State × Answer}
    (keeps : ∀ e r a s, (act e r a s).1.links = s.links) (s : State) :
    (modifyElement p role args act s).1.links = s.links := by
  rcases modifyElement_cases p role args act s with ⟨a, refused⟩ | ⟨e, x, _, _, _, _, taken⟩
  · rw [refused]
  · rw [taken]
    exact keeps ..

theorem vacate_links (e : ElementIx) (r : Element) (a : Unit) (s : State) : (vacate e r a s).1.links = s.links := by
  rw [vacate_eq]
  simp

theorem suspend_links (e : ElementIx) (r : Element) (a : Unit) (s : State) : (suspend e r a s).1.links = s.links := by
  unfold suspend
  split <;> simp

theorem resume_links (e : ElementIx) (r : Element) (a : Unit) (s : State) : (resume e r a s).1.links = s.links := by
  unfold resume
  split <;> simp

theorem setLimits_links (e : ElementIx) (r : Element) (v : LimitValues) (s : State) :
    (setLimits e r v s).1.links = s.links := by
  simp [setLimits]

theorem post_links (e : ElementIx) (r : Element) (a : PostArgs) (s : State) :
    (postReplaced e r a s).1.links = s.links ∧ (postInspected e r a s).1.links = s.links ∧
      (postCorrected e r a s).1.links = s.links := by
  simp [postReplaced, postInspected, postCorrected]

theorem reportChecks_links {α : Type} (p : Port) (args : Option (MachineId × α))
    {act : MachineId → α → State → State × Answer} (keeps : ∀ m a s, (act m a s).1.links = s.links) (s : State) :
    (reportChecks p args act s).1.links = s.links := by
  unfold reportChecks
  (repeat' split) <;> simp [keeps]

theorem writeActive_links (s : State) (m : MachineId) (t : MachineTally) : (s.writeActive m t).links = s.links :=
  State.setBank_links ..

theorem takeLong_links (p : Port) (req : LongRequest) (payload : List Byte) (s : State) :
    (takeLong p req payload s).1.links = s.links := by
  rcases takeLong_cases p req payload s with ⟨_, taken⟩ | ⟨c, r, n, _, _, taken⟩ | taken <;> rw [taken]
  simp

theorem windowSet_links (m : MachineId) (w : WindowSlot) (v : Window) (s : State) :
    (windowSet m w v s).1.links = s.links := by
  simp [windowSet, State.setWindow]

theorem windowDrop_links (m : MachineId) (w : WindowSlot) (s : State) : (windowDrop m w s).1.links = s.links := by
  unfold windowDrop
  split <;> simp [State.setWindow]

theorem applySetting_links (s : State) (st : Settings) (item : SettingItem) :
    (s.applySetting st item).links = s.links := by
  cases item <;> rfl

/-- No owning block touches a link. -/
theorem requestBlock_links (p : Port) (payload : List Byte) (k : RequestKind) (s : State) :
    (requestBlock p payload k s).1.links = s.links := by
  cases k with
  | elementDefine =>
    change (defineChecks p payload s).1.links = _
    unfold defineChecks define
    (repeat' split) <;> simp [State.write]
  | elementVacate => exact modifyElement_links p _ _ vacate_links s
  | elementSuspend => exact modifyElement_links p _ _ suspend_links s
  | elementResume => exact modifyElement_links p _ _ resume_links s
  | limitsSet => exact modifyElement_links p _ _ setLimits_links s
  | hitsAck => exact modifyElement_links p _ _ (fun _ _ _ _ => rfl) s
  | passReport => exact reportChecks_links p _ (fun _ _ _ => writeActive_links ..) s
  | runReport => exact reportChecks_links p _ (fun _ _ _ => writeActive_links ..) s
  | reckonNow =>
    change (reckonNow p payload s).1.links = _
    unfold reckonNow
    (repeat' split) <;> simp
  | modeSet =>
    change (modeSet p payload s).1.links = _
    unfold modeSet
    (repeat' split) <;> rfl
  | windowSet =>
    change (windowSetChecks p payload s).1.links = _
    unfold windowSetChecks
    (repeat' split) <;> simp [windowSet_links]
  | windowDrop =>
    change (windowDropChecks p payload s).1.links = _
    unfold windowDropChecks
    (repeat' split) <;> simp [windowDrop_links]
  | planBuild =>
    change (planBuildChecks p payload s).1.links = _
    unfold planBuildChecks
    (repeat' split) <;> simp [takeLong_links]
  | historyRead =>
    change (historyReadChecks p payload s).1.links = _
    unfold historyReadChecks
    split <;> simp [takeLong_links]
  | elementFind =>
    change (elementFindChecks p payload s).1.links = _
    unfold elementFindChecks
    split <;> simp [takeLong_links]
  | servicePost =>
    cases row : postRow payload <;> simp only [requestBlock, row]
    · exact modifyElement_links p _ _ (fun e r a s => (post_links e r a s).1) s
    · exact modifyElement_links p _ _ (fun e r a s => (post_links e r a s).2.1) s
    · exact modifyElement_links p _ _ (fun e r a s => (post_links e r a s).2.2) s
  | portReset =>
    change (portReset p payload s).1.links = _
    unfold portReset
    split <;> simp
  | attnClear =>
    change (attnClear p payload s).1.links = _
    unfold attnClear
    split <;> rfl
  | attnEnable =>
    change (attnEnable p payload s).1.links = _
    unfold attnEnable
    split <;> rfl
  | settingsWrite =>
    change (settingsWrite p payload s).1.links = _
    unfold settingsWrite
    (repeat' split) <;> simp [applySetting_links]
  | elementRead | queueRead | planRead | attnRead | statusRead | settingsRead | restart => rfl

/-! ## One port's commands (chapter 9) -/

theorem answer_other_link {s : State} {p q : Port} (other : q ≠ p) (kind : Byte) (a : Answer) :
    (s.answer p kind a).links[q] = s.links[q] := get_set_other _ _ other.symm

theorem takeRequest_other_link {s t : State} {p q : Port} (other : q ≠ p) {k : RequestKind} {payload : List Byte}
    (h : takeRequest p k (requestBlock p payload k) s = .next t) : t.links[q] = s.links[q] := by
  cases phase : s.phase with
  | starting =>
    rw [takeRequest_starting phase] at h
    cases h
    exact answer_other_link other ..
  | ready =>
    rw [takeRequest_ready phase] at h
    cases h
    rw [answer_other_link other, requestBlock_links]

theorem request_other_link {s t : State} {p q : Port} (other : q ≠ p) {k : RequestKind} {payload : List Byte}
    (h : exec (requestOfFrame p payload k) s = .next t) (phase : t.phase = s.phase) : t.links[q] = s.links[q] := by
  by_cases restart : k = .restart
  · subst restart
    rcases exec_restart_cases p payload s with ⟨ready, _, _, begins⟩ | refused
    · cases h.symm.trans begins
      cases phase.trans ready
    · exact takeRequest_other_link other (refused.symm.trans h)
  · exact takeRequest_other_link other ((exec_request restart ..).symm.trans h)

theorem setLink_other {s : State} {p q : Port} (other : q ≠ p) (l : Link) : (s.setLink p l).links[q] = s.links[q] :=
  get_set_other _ _ other.symm

theorem linkByte_other_link {s t : State} {p q : Port} (other : q ≠ p) {b : Byte}
    (h : exec (.linkByte p b) s = .next t) (phase : t.phase = s.phase) : t.links[q] = s.links[q] := by
  have moved := setLink_other (s := s) other (s.links[p].exchange b)
  rcases taken : s.links[p].rx.take b with ⟨rx, event⟩
  cases event with
  | nothing =>
    rw [exec_linkByte_nothing taken] at h
    cases h
    exact moved
  | failed reason =>
    rw [exec_linkByte_failed taken] at h
    cases h
    exact (answer_other_link other ..).trans moved
  | complete kind payload =>
    rw [exec_linkByte_complete taken] at h
    cases known : requestKindOf kind with
    | none =>
      rw [takeFrame_unknown known] at h
      cases h
      exact (answer_other_link other ..).trans moved
    | some k =>
      rw [takeFrame_known known] at h
      exact (request_other_link other h phase).trans moved

/-- Settles O44: a block leaves every link, and a reply is its own port's. -/
theorem otherPortsLinksAreUntouched : Obligations.OtherPortsLinksAreUntouched := by
  intro s t c p q h other phase command
  rcases command with ⟨k, payload, rfl⟩ | ⟨b, rfl⟩ | ⟨reason, rfl⟩ | ⟨kind, rfl⟩ | rfl | rfl | rfl
  · exact request_other_link other h phase
  · exact linkByte_other_link other h phase
  · cases h
    exact answer_other_link other ..
  · cases h
    exact answer_other_link other ..
  · cases h
    exact setLink_other other _
  · change execReplyReady p s = _ at h
    unfold execReplyReady at h
    split at h
    · cases h
      exact setLink_other other _
    · cases h
  · change execDiscardTimerExpiry p s = _ at h
    unfold execDiscardTimerExpiry at h
    split at h
    · cases h
      rw [State.discardResult, raiseAt_eq]
    · cases h

end Sys2Proof.Machine

/-! # Proofs: definition of an element, and the refusals of the element requests (chapter 1) -/

namespace Sys2Proof.Machine

/-! ## A taken ELEMENT_DEFINE (R9, R10) -/

/-- The block that an append opens is the FREE one with no FREE block below it (R135). -/
theorem lowestFree_eq_some {alloc : Vector AllocEntry 256} {b : BlockIx} (free : alloc[b] = .free)
    (lower : ∀ c : BlockIx, c < b → alloc[c] ≠ .free) : lowestFree alloc = some b := by
  refine List.find?_eq_some_iff_getElem.2 ⟨decide_eq_true free, b.val, by simp, by simp, fun j below => ?_⟩
  have := lower ⟨j, below.trans b.isLt⟩ below
  simpa using this

/-- An append for an element without a chain opens one (Table 7-8). -/
theorem append_without_chain (pool : HistoryPool) (h : HistoryRecord) :
    append pool none h = (lowestFree pool.alloc).map fun b => (pool.openBlock b h, some b) := by
  cases free : lowestFree pool.alloc <;> simp only [append, chainOf, List.getLast?_nil, free, Option.map]

section FirstAppend

variable {s : State} {e : ElementIx} {r : Element}

/-- The first record of an element just written goes into a new chain (R135). -/
theorem appendHistory_opens (headless : r.head = none) {b : BlockIx} (free : lowestFree s.pool.alloc = some b)
    (h : HistoryRecord) :
    ((s.write e r).appendHistory e h).1 =
      { s with elements := s.elements.set e { r with head := some b }, pool := s.pool.openBlock b h } := by
  have written : (s.write e r).elements[e] = r := get_set_same ..
  have opens : append (s.write e r).pool (s.write e r).elements[e].head h = some (s.pool.openBlock b h, some b) := by
    rw [written, headless, append_without_chain]
    exact congrArg (Option.map _) free
  rcases appendHistory_cases (s.write e r) e h with ⟨pool, head, kept, result⟩ | ⟨dropped, -⟩
  · obtain ⟨rfl, rfl⟩ := Prod.mk.inj (Option.some.inj (opens.symm.trans kept))
    rw [result, written]
    simp only [State.write, Vector.set_set]
  · exact absurd (opens.symm.trans dropped) (by simp)

/-- Without a FREE block the first record is dropped (R137). -/
theorem appendHistory_drops (headless : r.head = none) (full : lowestFree s.pool.alloc = none) (h : HistoryRecord) :
    ((s.write e r).appendHistory e h).1 =
      raiseAt (fun q => s.settings.binds q r.machine) .historyLost (s.write e r) := by
  have written : (s.write e r).elements[e] = r := get_set_same ..
  have drops : append (s.write e r).pool (s.write e r).elements[e].head h = none := by
    rw [written, headless, append_without_chain]
    exact congrArg (Option.map _) full
  rcases appendHistory_cases (s.write e r) e h with ⟨pool, head, kept, -⟩ | ⟨-, result⟩
  · exact absurd (drops.symm.trans kept) (by simp)
  · rw [result, written]
    rfl

end FirstAppend

theorem clampBeltRate_eq (k : ElementKind) (b : Byte) : clampBeltRate k b = if k = .roller then 0 else b := by
  cases k <;> rfl

/-- A define answers OK exactly when no value was clamped (R8). -/
theorem define_status (a : DefineArgs) :
    okOrClamped (defineClamps a) =
      if clampDuty a.duty = a.duty ∧ clampBeltRate a.kind a.beltRate = a.beltRate ∧
        clampPlan a.planAt a.limit = a.planAt then .ok else .clamped := by
  unfold okOrClamped defineClamps
  by_cases duty : clampDuty a.duty = a.duty <;>
    by_cases belt : clampBeltRate a.kind a.beltRate = a.beltRate <;>
      by_cases plan : clampPlan a.planAt a.limit = a.planAt <;> simp [duty, belt, plan]

theorem exec_elementDefine {s : State} {p : Port} {payload : List Byte} {a : DefineArgs}
    (admitted : s.admits p .service a.machine) (some : defineArgs payload = .some a)
    (vacant : s.elements[a.index].state = .vacant) :
    exec (.elementDefine p payload) s = .next ((define a s).1.answer p 0x90#8 (define a s).2) := by
  have checked : defineChecks p payload s = define a s := by
    simp only [defineChecks, admitted.holdsRole, some, admitted.bound, vacant, ne_eq, not_true_eq_false,
      Bool.true_eq_false, if_false]
  calc exec (.elementDefine p payload) s
      = .next ((defineChecks p payload s).1.answer p 0x90#8 (defineChecks p payload s).2) :=
        takeRequest_ready admitted.ready ..
    _ = _ := by rw [checked]

/-- Settles O4: the record written has no chain, so its first append opens one or is dropped. -/
theorem elementDefineWritesTheRecord : Obligations.ElementDefineWritesTheRecord := by
  intro s p payload a admitted args vacant r h reply
  have record : definedRecord a s.elements[a.index] s.openInterval = r := by
    unfold definedRecord
    rw [clampBeltRate_eq]
    rfl
  have duty : clampDuty a.duty = r.duty := rfl
  have belt : clampBeltRate a.kind a.beltRate = r.beltRate := clampBeltRate_eq ..
  have plan : clampPlan a.planAt a.limit = r.planAt := rfl
  have answered : (define a s).2 = reply := by
    unfold define
    rw [record, define_status, duty, belt, plan]
    rfl
  have acted : (define a s).1 = ((s.write a.index r).appendHistory a.index h).1 := by
    unfold define
    rw [record]
  rw [exec_elementDefine admitted args vacant, acted, answered]
  refine ⟨fun b free lower => ?_, fun full => ?_⟩
  · rw [appendHistory_opens rfl (lowestFree_eq_some free lower)]
    rfl
  · rw [appendHistory_drops rfl (lowestFree_eq_none_iff.2 full)]
    rfl

/-! ## The refusals of the element requests (Tables 1-5 and 7-2) -/

section ModifyChecks

variable {α : Type} {s : State} {p : Port} {role : Role} {args : Option (ElementIx × Generation × α)}
  {act : ElementIx → Element → α → State → State × Answer} {e : ElementIx} {g : Generation} {a : α}

theorem modifyElement_denied (h : s.settings.holds p role = false) :
    modifyElement p role args act s = (s, refuse .denied) := if_pos h

theorem modifyElement_badArg (h : s.settings.holds p role = true) (none : args = .none) :
    modifyElement p role args act s = (s, refuse .badArg) := by
  simp only [modifyElement, h, none, Bool.true_eq_false, if_false]

theorem modifyElement_vacant (h : s.settings.holds p role = true) (some : args = .some (e, g, a))
    (vacant : s.elements[e].state = .vacant) :
    modifyElement p role args act s = (s, refuseAt .vacant s.elements[e]) := by
  simp only [modifyElement, h, some, vacant, Bool.true_eq_false, if_false, if_true]

theorem modifyElement_unbound (h : s.settings.holds p role = true) (some : args = .some (e, g, a))
    (occupied : s.elements[e].state ≠ .vacant) (unbound : s.settings.binds p s.elements[e].machine = false) :
    modifyElement p role args act s = (s, refuse .denied) := by
  simp only [modifyElement, h, some, occupied, unbound, Bool.true_eq_false, if_false, if_true]

theorem modifyElement_stale (h : s.settings.holds p role = true) (some : args = .some (e, g, a))
    (occupied : s.elements[e].state ≠ .vacant) (bound : s.settings.binds p s.elements[e].machine = true)
    (stale : g ≠ s.elements[e].generation) :
    modifyElement p role args act s = (s, refuseAt .stale s.elements[e]) := by
  simp only [modifyElement, h, some, occupied, bound, stale, ne_eq, not_false_eq_true, Bool.true_eq_false, if_false,
    if_true]

end ModifyChecks

/-- A request that modifies an element passes through the checks of Table 1-5, which refuse in order. `tenancy` is
the part of its arguments that they look at. -/
theorem modify_refused {α : Type} {s : State} {p : Port} (ready : s.phase = .ready) (k : RequestKind) (role : Role)
    (args : Option (ElementIx × Generation × α)) (act : ElementIx → Element → α → State → State × Answer)
    {tenancy : Option (ElementIx × Generation)} (named : tenancy = args.map fun a => (a.1, a.2.1)) :
    let refused (st : Status) (body : List Byte) := takeRequest p k (modifyElement p role args act) s =
      .next (s.answer p (replyKind k) { status := st, body := body })
    (s.settings.holds p role = false → refused .denied []) ∧
    (s.settings.holds p role = true →
      (tenancy = none → refused .badArg []) ∧
      ∀ e g, tenancy = some (e, g) →
        (s.elements[e].state = .vacant → refused .vacant [s.elements[e].generation]) ∧
        (s.elements[e].state ≠ .vacant → s.settings.binds p s.elements[e].machine = false → refused .denied []) ∧
        (s.elements[e].state ≠ .vacant → s.settings.binds p s.elements[e].machine = true →
          g ≠ s.elements[e].generation → refused .stale [s.elements[e].generation])) := by
  intro refused
  have refuses {st : Status} {body : List Byte}
      (h : modifyElement p role args act s = (s, { status := st, body := body })) : refused st body := by
    simp only [refused]
    rw [takeRequest_ready ready, h]
  subst named
  refine ⟨fun noRole => refuses (modifyElement_denied noRole), fun holds => ⟨fun none => ?_, fun e g some => ?_⟩⟩
  · exact refuses (modifyElement_badArg holds (Option.map_eq_none_iff.1 none))
  · obtain ⟨⟨_, _, a⟩, hargs, same⟩ := Option.map_eq_some_iff.1 some
    obtain ⟨rfl, rfl⟩ := Prod.mk.inj same
    exact ⟨fun vacant => refuses (modifyElement_vacant holds hargs vacant),
      fun occupied unbound => refuses (modifyElement_unbound holds hargs occupied unbound),
      fun occupied bound stale => refuses (modifyElement_stale holds hargs occupied bound stale)⟩

theorem plainArgs_names (payload : List Byte) :
    tenancyArgs payload = (plainArgs payload).map fun a => (a.1, a.2.1) := by
  unfold plainArgs
  cases tenancyArgs payload <;> rfl

section DefineChecks

variable {s : State} {p : Port} {payload : List Byte} {a : DefineArgs}

theorem defineChecks_badArg (h : s.settings.holds p .service = true) (none : defineArgs payload = .none) :
    defineChecks p payload s = (s, refuse .badArg) := by
  simp only [defineChecks, h, none, Bool.true_eq_false, if_false]

theorem defineChecks_unbound (h : s.settings.holds p .service = true) (some : defineArgs payload = .some a)
    (unbound : s.settings.binds p a.machine = false) : defineChecks p payload s = (s, refuse .denied) := by
  simp only [defineChecks, h, some, unbound, Bool.true_eq_false, if_false, if_true]

theorem defineChecks_occupied (h : s.settings.holds p .service = true) (some : defineArgs payload = .some a)
    (bound : s.settings.binds p a.machine = true) (occupied : s.elements[a.index].state ≠ .vacant) :
    defineChecks p payload s = (s, refuse .occupied) := by
  simp only [defineChecks, h, some, bound, occupied, ne_eq, not_false_eq_true, Bool.true_eq_false, if_false, if_true]

end DefineChecks

/-- Settles O10: eight requests go through one order of checks, ELEMENT_DEFINE through its own. -/
theorem elementRequestsAreRefusedInOrder : Obligations.ElementRequestsAreRefusedInOrder := by
  intro s p payload ready
  have posts (form : PostForm) : ((postArgs form payload).map fun a => (a.index, a.generation)) =
      (postRequest form payload).map fun a => (a.1, a.2.1) := by
    unfold postRequest
    cases postArgs form payload <;> rfl
  refine ⟨fun x hx => ?_, ?_⟩
  · simp only [List.mem_cons, List.not_mem_nil, or_false] at hx
    rcases hx with rfl | rfl | rfl | rfl | rfl | rfl | rfl | rfl
    · exact modify_refused ready .elementVacate _ _ vacate (plainArgs_names payload)
    · exact modify_refused ready .elementSuspend _ _ suspend (plainArgs_names payload)
    · exact modify_refused ready .elementResume _ _ resume (plainArgs_names payload)
    · exact modify_refused ready .limitsSet _ _ setLimits rfl
    · exact modify_refused ready .hitsAck _ _ ackHits rfl
    · exact modify_refused ready .servicePost _ _ postReplaced (posts .replacement)
    · exact modify_refused ready .servicePost _ _ postInspected (posts .inspection)
    · exact modify_refused ready .servicePost _ _ postCorrected (posts .correction)
  · intro refused
    have executed : exec (.elementDefine p payload) s =
        .next ((defineChecks p payload s).1.answer p 0x90#8 (defineChecks p payload s).2) := takeRequest_ready ready ..
    have refuses {st : Status} (h : defineChecks p payload s = (s, refuse st)) : refused st := by
      simp only [refused]
      rw [executed, h]
      rfl
    refine ⟨fun noRole => refuses (if_pos noRole), fun role => ⟨fun none => ?_, fun a some => ⟨fun unbound => ?_,
      fun bound occupied => ?_⟩⟩⟩
    · exact refuses (defineChecks_badArg role none)
    · exact refuses (defineChecks_unbound role some unbound)
    · exact refuses (defineChecks_occupied role some bound occupied)

end Sys2Proof.Machine

/-! # Proofs: long requests at their port's slot (chapter 8) -/

namespace Sys2Proof.Machine

/-! ## The checks of the three long requests (R108, R140, R153) -/

/-- A long request that passes its checks reaches its port's slot. -/
theorem exec_longRequest {s : State} {p : Port} {payload : List Byte} {c : Instr} {req : LongRequest}
    (ready : s.phase = .ready) (passes : LongRequestPasses s p payload c req) :
    exec c s = .next
      ((takeLong p req payload s).1.answer p (req.kind.code + 0x80#8) (takeLong p req payload s).2) := by
  cases passes with
  | planBuild m args holdsRole bound =>
    have checked : planBuildChecks p payload s = takeLong p (.planBuild m) payload s := by
      simp only [planBuildChecks, holdsRole, args, bound, Bool.true_eq_false, if_false]
    rw [← checked]
    exact takeRequest_ready ready ..
  | historyRead e skip args =>
    have checked : historyReadChecks p payload s = takeLong p (.historyRead e skip) payload s := by
      simp only [historyReadChecks, args]
    rw [← checked]
    exact takeRequest_ready ready ..
  | elementFind selector flags start args =>
    have checked : elementFindChecks p payload s = takeLong p (.elementFind selector flags start) payload s := by
      simp only [elementFindChecks, args]
    rw [← checked]
    exact takeRequest_ready ready ..

/-- A request whose block refuses it changes nothing but the reply. -/
theorem takeRequest_refused {s : State} (ready : s.phase = .ready) {p : Port} {k : RequestKind}
    {block : State → State × Answer} {st : Status} (refuses : block s = (s, refuse st)) :
    takeRequest p k block s = .next (s.answer p (replyKind k) { status := st, body := [] }) := by
  rw [takeRequest_ready ready, refuses]
  rfl

section Refusals

variable {s : State} {p : Port} {payload : List Byte}

theorem planBuildChecks_badArg (h : s.settings.holds p .plan = true) (none : planBuildArgs payload = .none) :
    planBuildChecks p payload s = (s, refuse .badArg) := by
  simp only [planBuildChecks, h, none, Bool.true_eq_false, if_false]

theorem planBuildChecks_unbound {m : MachineId} (h : s.settings.holds p .plan = true)
    (some : planBuildArgs payload = .some m) (unbound : s.settings.binds p m = false) :
    planBuildChecks p payload s = (s, refuse .denied) := by
  simp only [planBuildChecks, h, some, unbound, Bool.true_eq_false, if_false, if_true]

theorem historyReadChecks_badArg (none : historyReadArgs payload = .none) :
    historyReadChecks p payload s = (s, refuse .badArg) := by
  simp only [historyReadChecks, none]

theorem elementFindChecks_badArg (none : findArgs payload = .none) :
    elementFindChecks p payload s = (s, refuse .badArg) := by
  simp only [elementFindChecks, none]

end Refusals

/-! ## A long request at its slot (R146, R147, R150) -/

section AtTheSlot

variable {s : State} {p : Port} {req : LongRequest} {payload : List Byte}

/-- A repeat has the kind and the payload of the copy (R145). -/
theorem same_eq_true {held : RequestCopy} (kind : held.request.kind = req.kind) (bytes : held.payload = payload) :
    held.same req payload = true := by
  simp [RequestCopy.same, kind, bytes]

theorem same_eq_false {held : RequestCopy} (differs : held.request.kind ≠ req.kind ∨ held.payload ≠ payload) :
    held.same req payload = false := by
  rcases differs with kind | bytes
  · simp [RequestCopy.same, kind]
  · simp [RequestCopy.same, bytes]

/-- The state in which a request is taken into an EMPTY slot and waits. -/
def State.withTaken (s : State) (p : Port) (req : LongRequest) (payload : List Byte) : State :=
  { s with slots := s.slots.set p (.waiting { request := req, payload := payload }) }

theorem takeLong_empty (empty : s.slots[p] = .empty) :
    takeLong p req payload s =
      ((s.withTaken p req payload).startWaiting (.slot p),
        { status := .pending, body := [((s.withTaken p req payload).startWaiting (.slot p)).slots[p].code] }) := by
  simp only [takeLong, empty, State.withTaken]

theorem takeLong_pending {held : RequestCopy} (slot : s.slots[p] = .waiting held ∨ s.slots[p] = .running held)
    (same : held.same req payload = true) :
    takeLong p req payload s = (s, { status := .pending, body := [s.slots[p].code] }) := by
  rcases slot with slot | slot <;> simp only [takeLong, slot, same, if_true]

theorem takeLong_busy {held : RequestCopy}
    (slot : s.slots[p] = .waiting held ∨ s.slots[p] = .running held ∨ ∃ result n, s.slots[p] = .ready held result n)
    (differs : held.same req payload = false) :
    takeLong p req payload s =
      (s, { status := .busy, body := [held.request.kind.code, s.slots[p].code] }) := by
  rcases slot with slot | slot | ⟨result, n, slot⟩ <;>
    simp only [takeLong, slot, differs, Bool.false_eq_true, if_false, busyAnswer]

theorem takeLong_collects {held : RequestCopy} {result : LongResult} {n : Nat}
    (slot : s.slots[p] = .ready held result n)
    (same : held.same req payload = true) :
    takeLong p req payload s = ({ s with slots := s.slots.set p .empty }, { status := .ok, body := result.bytes }) := by
  simp only [takeLong, slot, same, if_true]

/-- With the engine occupied the slot waits (R157). -/
theorem takeLong_waits (empty : s.slots[p] = .empty) (occupied : s.engine ≠ .idle) :
    takeLong p req payload s =
      ({ s with
          slots := s.slots.set p (.waiting { request := req, payload := payload })
          arbiter := { s.arbiter with waiting := s.arbiter.waiting.set p.succ true } },
        { status := .pending, body := [1#8] }) := by
  have waits : (s.withTaken p req payload).startWaiting (.slot p) =
      { s.withTaken p req payload with
        arbiter := { s.arbiter with waiting := s.arbiter.waiting.set p.succ true } } := grant_occupied occupied
  have slot : (s.withTaken p req payload).slots[p] = .waiting { request := req, payload := payload } :=
    get_set_same ..
  rw [takeLong_empty empty, waits]
  exact Prod.ext rfl (congrArg (fun x : Slot => ({ status := .pending, body := [x.code] } : Answer)) slot)

/-- With the engine idle and nothing waiting the slot is granted at once (R157). -/
theorem takeLong_granted (ready : s.phase = .ready) (empty : s.slots[p] = .empty) (idle : s.engine = .idle)
    (alone : s.nothingWaits) :
    takeLong p req payload s =
      ({ s with
          slots := s.slots.set p (.running { request := req, payload := payload })
          arbiter :=
            { high := if s.settings.tiers[p.succ] = .high then .requester (.slot p) else .low
              low := if s.settings.tiers[p.succ] = .high then s.arbiter.low else .slot p
              waiting := s.arbiter.waiting }
          engine := s.operation p req },
        { status := .pending, body := [2#8] }) := by
  have slot : (s.withTaken p req payload).slots[p] = .waiting { request := req, payload := payload } :=
    get_set_same ..
  have rewritten : (s.withTaken p req payload).slots.set p (.running { request := req, payload := payload }) =
      s.slots.set p (.running { request := req, payload := payload }) := Vector.set_set ..
  have taken := (startWaiting_alone (s := s.withTaken p req payload) ready idle alone (.slot p)).trans
    (begin_slot (copy := { request := req, payload := payload }) slot)
  have runs : ((s.withTaken p req payload).startWaiting (.slot p)).slots[p] =
      .running { request := req, payload := payload } := by
    rw [taken]
    exact get_set_same ..
  rw [takeLong_empty empty]
  refine Prod.ext ?_ (congrArg (fun x : Slot => ({ status := .pending, body := [x.code] } : Answer)) runs)
  refine taken.trans ?_
  simp only [rewritten]
  cases req <;> rfl

end AtTheSlot

/-- Settles O29: the checks of each request, then the port's slot. -/
theorem longRequestsUseTheDeferredSlot : Obligations.LongRequestsUseTheDeferredSlot := by
  refine ⟨fun s p payload ready => ?_, fun s p payload c req ready passes => ?_⟩
  · intro refused
    refine ⟨fun noRole => takeRequest_refused ready (if_pos noRole), fun role =>
      ⟨fun none => takeRequest_refused ready (planBuildChecks_badArg role none), fun m some unbound =>
        takeRequest_refused ready (planBuildChecks_unbound role some unbound)⟩,
      fun none => takeRequest_refused ready (historyReadChecks_badArg none),
      fun none => takeRequest_refused ready (elementFindChecks_badArg none)⟩
  · intro kind copy n16 recordBytes spelled
    have executed := exec_longRequest ready passes
    have record (h : HistoryRecord) : h.bytes = recordBytes h := by
      unfold HistoryRecord.bytes recordBytes
      cases h.body <;> rfl
    have spells (result : LongResult) : result.bytes = spelled result := by
      cases result with
      | plan st placed unplaced beyond => cases st <;> rfl
      | history st g records blocks skip page =>
        have page_bytes : page.flatMap HistoryRecord.bytes = page.flatMap recordBytes :=
          congrArg (page.flatMap ·) (funext record)
        have bytes : (LongResult.history st g records blocks skip page).bytes =
            [st.code, g, byteOf records, byteOf blocks, byteOf skip.val, byteOf page.length] ++
              page.flatMap recordBytes := congrArg (_ ++ ·) page_bytes
        rw [bytes]
        cases st <;> rfl
      | find indices more => cases more <;> rfl
    have answers {t : State} {x : Answer} (h : takeLong p req payload s = (t, x)) :
        exec c s = .next (t.answer p (kind + 0x80#8) x) := by
      rw [executed, h]
    have slotCode (held : RequestCopy) (slot : s.slots[p] = .waiting held ∨ s.slots[p] = .running held) :
        s.slots[p].code = if s.slots[p] = .waiting held then 1#8 else 2#8 := by
      rcases slot with slot | slot
      · rw [if_pos slot, slot]
        rfl
      · have other : ¬ s.slots[p] = .waiting held := by simp [slot]
        rw [if_neg other, slot]
        rfl
    refine ⟨fun empty occupied => answers (takeLong_waits empty occupied), fun empty idle alone => ?_,
      fun held slot => ⟨fun sameKind sameBytes => ?_, fun differs => ?_⟩,
      fun held result n slot => ⟨fun sameKind sameBytes => ?_, fun differs => ?_⟩⟩
    · refine (answers (takeLong_granted ready empty idle alone)).trans ?_
      cases req <;> rfl
    · rw [← slotCode held slot]
      exact answers (takeLong_pending slot (same_eq_true sameKind sameBytes))
    · rw [← slotCode held slot]
      exact answers (takeLong_busy (slot.imp_right .inl) (same_eq_false differs))
    · rw [← spells]
      exact answers (takeLong_collects slot (same_eq_true sameKind sameBytes))
    · have code : s.slots[p].code = 3#8 := congrArg Slot.code slot
      rw [← code]
      exact answers (takeLong_busy (.inr (.inr ⟨result, n, slot⟩)) (same_eq_false differs))

end Sys2Proof.Machine

/-! # Proofs: reading a request payload and spelling its values are inverse (R170) -/

namespace Sys2Proof.Machine

/-! ## Multi-byte fields -/

theorem bytes16_be16 (hi lo : Byte) : bytes16 (be16 hi lo) = [hi, lo] := by
  simp only [bytes16, be16, BitVec.extractLsb'_append_eq_left, BitVec.extractLsb'_append_eq_right]

theorem be16_bytes16 (w : Half) : be16 (w.extractLsb' 8 8) (w.extractLsb' 0 8) = w := by
  have joined : be16 (w.extractLsb' 8 8) (w.extractLsb' 0 8) = w.extractLsb' 0 16 :=
    BitVec.extractLsb'_append_extractLsb'_eq_extractLsb' (start₁ := 0) (len₁ := 8) rfl
  exact joined.trans BitVec.extractLsb'_eq_self

theorem bytes32_be32 (b3 b2 b1 b0 : Byte) : bytes32 (be32 b3 b2 b1 b0) = [b3, b2, b1, b0] := by
  have high (start : Nat) (h : 16 ≤ start) :
      (be32 b3 b2 b1 b0).extractLsb' start 8 = (be16 b3 b2).extractLsb' (start - 16) 8 :=
    BitVec.extractLsb'_append_eq_of_le h
  have low (start : Nat) (h : start + 8 ≤ 16) :
      (be32 b3 b2 b1 b0).extractLsb' start 8 = (be16 b1 b0).extractLsb' start 8 :=
    BitVec.extractLsb'_append_eq_of_add_le h
  rw [bytes32, high 24 (by omega), high 16 (by omega), low 8 (by omega), low 0 (by omega)]
  exact congrArg₂ (· ++ ·) (bytes16_be16 b3 b2) (bytes16_be16 b1 b0)

theorem be32_bytes32 (w : Word) :
    be32 (w.extractLsb' 24 8) (w.extractLsb' 16 8) (w.extractLsb' 8 8) (w.extractLsb' 0 8) = w := by
  have high : w.extractLsb' 24 8 ++ w.extractLsb' 16 8 = w.extractLsb' 16 16 :=
    BitVec.extractLsb'_append_extractLsb'_eq_extractLsb' (start₁ := 16) (len₁ := 8) rfl
  have low : w.extractLsb' 8 8 ++ w.extractLsb' 0 8 = w.extractLsb' 0 16 :=
    BitVec.extractLsb'_append_extractLsb'_eq_extractLsb' (start₁ := 0) (len₁ := 8) rfl
  have joined : w.extractLsb' 16 16 ++ w.extractLsb' 0 16 = w.extractLsb' 0 32 :=
    BitVec.extractLsb'_append_extractLsb'_eq_extractLsb' (start₁ := 0) (len₁ := 16) rfl
  rw [be32, high, low]
  exact joined.trans BitVec.extractLsb'_eq_self

theorem be16_eq_iff {hi lo : Byte} {w : Half} : be16 hi lo = w ↔ [hi, lo] = bytes16 w := by
  constructor
  · rintro rfl
    exact (bytes16_be16 hi lo).symm
  · intro h
    obtain ⟨rfl, rfl⟩ : hi = w.extractLsb' 8 8 ∧ lo = w.extractLsb' 0 8 := by simpa [bytes16] using h
    exact be16_bytes16 w

/-! ## Single arguments -/

theorem indexArg_eq_some_iff {n v : Nat} {i : Fin n} : indexArg n v = some i ↔ v = i.val := by
  refine ⟨fun h => ?_, indexArg_in_range⟩
  unfold indexArg at h
  split at h
  · exact congrArg Fin.val (Option.some.inj h)
  · cases h

theorem toNat_eq_iff_ofNat {w n : Nat} (small : n < 2 ^ w) {b : BitVec w} : b.toNat = n ↔ b = BitVec.ofNat w n := by
  refine ⟨fun h => ?_, fun h => ?_⟩
  · rw [← h, BitVec.ofNat_toNat, BitVec.setWidth_eq]
  · rw [h, BitVec.toNat_ofNat, Nat.mod_eq_of_lt small]

theorem ofNat_ne_of_lt {w v n : Nat} (below : v < n) (small : n < 2 ^ w) : BitVec.ofNat w v ≠ BitVec.ofNat w n := by
  intro same
  have value := (toNat_eq_iff_ofNat small).2 same
  rw [BitVec.toNat_ofNat, Nat.mod_eq_of_lt (below.trans small)] at value
  omega

theorem byteIndex_iff {n : Nat} (small : n ≤ 256) {b : Byte} {i : Fin n} :
    indexArg n b.toNat = some i ↔ b = byteOf i.val :=
  indexArg_eq_some_iff.trans (toNat_eq_iff_ofNat (by omega))

theorem halfIndex_iff {n : Nat} (small : n ≤ 65536) {hi lo : Byte} {i : Fin n} :
    indexArg n (be16 hi lo).toNat = some i ↔ [hi, lo] = halfBytes i.val :=
  indexArg_eq_some_iff.trans ((toNat_eq_iff_ofNat (by omega)).trans be16_eq_iff)

theorem elementArg_eq_some_iff {hi lo : Byte} {e : ElementIx} :
    elementArg hi lo = some e ↔ [hi, lo] = halfBytes e.val := halfIndex_iff (by omega)

theorem machineArg_eq_some_iff {b : Byte} {m : MachineId} : machineArg b = some m ↔ b = byteOf m.val :=
  byteIndex_iff (by omega)

theorem zoneArg_eq_some_iff {b : Byte} {z : Zone} : zoneArg b = some z ↔ b = byteOf z.val := byteIndex_iff (by omega)

theorem kindArg_eq_some_iff {b : Byte} {k : ElementKind} : kindArg b = some k ↔ b = k.code := by
  constructor
  · intro h
    unfold kindArg at h
    split_ifs at h <;> cases h <;> assumption
  · rintro rfl
    cases k <;> rfl

theorem modeArg_eq_some_iff {b : Byte} {m : Mode} : modeArg b = some m ↔ b = m.code := by
  constructor
  · intro h
    unfold modeArg at h
    split_ifs at h <;> cases h <;> assumption
  · rintro rfl
    cases m <;> rfl

theorem flagsArg_eq_some_iff {b : Byte} {f : FlagSet} : flagsArg b = some f ↔ b = f.setWidth 8 := by
  constructor
  · intro h
    unfold flagsArg at h
    split at h
    · next small =>
      cases h
      refine BitVec.eq_of_toNat_eq ?_
      simp only [BitVec.toNat_setWidth, BitVec.extractLsb'_toNat, Nat.shiftRight_zero]
      omega
    · cases h
  · rintro rfl
    have small : (f.setWidth 8).toNat < 32 := by
      simp only [BitVec.toNat_setWidth]
      omega
    rw [flagsArg, if_pos small]
    refine congrArg some (BitVec.eq_of_toNat_eq ?_)
    simp only [BitVec.extractLsb'_toNat, BitVec.toNat_setWidth, Nat.shiftRight_zero]
    omega
theorem causesArg_eq_some_iff {hi lo : Byte} {c : CauseSet} :
    causesArg hi lo = some c ↔ [hi, lo] = bytes16 (c.setWidth 16) := by
  rw [← be16_eq_iff]
  unfold causesArg
  generalize be16 hi lo = w
  constructor
  · intro h
    split at h
    · next small =>
      cases h
      refine BitVec.eq_of_toNat_eq ?_
      simp only [BitVec.toNat_setWidth, BitVec.extractLsb'_toNat, Nat.shiftRight_zero]
      omega
    · cases h
  · rintro rfl
    have small : (c.setWidth 16).toNat < 2048 := by
      simp only [BitVec.toNat_setWidth]
      omega
    rw [if_pos small]
    refine congrArg some (BitVec.eq_of_toNat_eq ?_)
    simp only [BitVec.extractLsb'_toNat, BitVec.toNat_setWidth, Nat.shiftRight_zero]
    omega

/-- The list selector's byte (R170). -/
def PlanList.selector : PlanList → Byte
  | .window w => byteOf w.val
  | .unplaced => 8

theorem planListArg_eq_some_iff {b : Byte} {l : PlanList} : planListArg b = some l ↔ b = l.selector := by
  constructor
  · intro h
    unfold planListArg at h
    split at h
    · next unplaced =>
      cases h
      exact unplaced
    · split at h
      · next w hw =>
        cases h
        exact (byteIndex_iff (by omega)).1 hw
      · cases h
  · rintro rfl
    cases l with
    | window w =>
      have other : byteOf w.val ≠ 8 := ofNat_ne_of_lt (n := 8) w.isLt (by omega)
      have slot : indexArg 8 (byteOf w.val).toNat = some w := (byteIndex_iff (by omega)).2 rfl
      simp only [planListArg, PlanList.selector, other, slot, if_false]
    | unplaced => rfl

/-- The machine selector's byte: 4 is ANY (R170). -/
def selectorByte : Option MachineId → Byte
  | none => 4
  | some m => byteOf m.val

theorem selectorArg_eq_some_iff {b : Byte} {m : Option MachineId} : selectorArg b = some m ↔ b = selectorByte m := by
  constructor
  · intro h
    unfold selectorArg at h
    split at h
    · next any =>
      cases h
      exact any
    · split at h
      · next machine hm =>
        cases h
        exact machineArg_eq_some_iff.1 hm
      · cases h
  · rintro rfl
    cases m with
    | none => rfl
    | some m =>
      have other : byteOf m.val ≠ 4 := ofNat_ne_of_lt (n := 4) m.isLt (by omega)
      have machine : machineArg (byteOf m.val) = some m := machineArg_eq_some_iff.2 rfl
      simp only [selectorArg, selectorByte, other, machine, if_false]

/-- The start index: 0xFFFF is FIRST (R170). -/
def startHalf : Option ElementIx → Half
  | none => 0xFFFF
  | some e => BitVec.ofNat 16 e.val

theorem startArg_eq_some_iff {hi lo : Byte} {start : Option ElementIx} :
    startArg hi lo = some start ↔ [hi, lo] = bytes16 (startHalf start) := by
  constructor
  · intro h
    unfold startArg at h
    split at h
    · next first =>
      cases h
      exact be16_eq_iff.1 first
    · split at h
      · next e he =>
        cases h
        exact elementArg_eq_some_iff.1 he
      · cases h
  · intro h
    cases start with
    | none => exact if_pos (be16_eq_iff.2 h)
    | some e =>
      have other : be16 hi lo ≠ 0xFFFF := by
        rw [be16_eq_iff.2 h]
        exact ofNat_ne_of_lt (n := 0xFFFF) (e.isLt.trans (by omega)) (by omega)
      have element : elementArg hi lo = some e := elementArg_eq_some_iff.2 h
      simp only [startArg, other, element, if_false]

/-! ## Layouts: what a reader takes is what the speller gives -/

/-- The two bytes of an index are read back. -/
theorem elementArg_halves (e : ElementIx) :
    elementArg ((BitVec.ofNat 16 e.val).extractLsb' 8 8) ((BitVec.ofNat 16 e.val).extractLsb' 0 8) = some e :=
  elementArg_eq_some_iff.2 rfl

theorem machineArg_byteOf (m : MachineId) : machineArg (byteOf m.val) = some m := machineArg_eq_some_iff.2 rfl

theorem defineArgs_eq_some_iff {payload : List Byte} {a : DefineArgs} :
    defineArgs payload = some a ↔ payload = a.bytes ∧ (a.rateHigh = 0 ∨ a.rateLow ≤ a.rateHigh) := by
  constructor
  · intro h
    unfold defineArgs at h
    split at h
    · split at h
      · next he hk hm hz window =>
        cases h
        refine ⟨?_, (rateWindowOk_iff ..).1 window⟩
        rw [DefineArgs.bytes, ← elementArg_eq_some_iff.1 he, ← kindArg_eq_some_iff.1 hk, ← machineArg_eq_some_iff.1 hm,
          ← zoneArg_eq_some_iff.1 hz, bytes32_be32, bytes32_be32, bytes16_be16, bytes16_be16]
        rfl
      · cases h
    · cases h
  · rintro ⟨rfl, window⟩
    have zone : zoneArg (byteOf a.zone.val) = some a.zone := zoneArg_eq_some_iff.2 rfl
    have kind : kindArg a.kind.code = some a.kind := kindArg_eq_some_iff.2 rfl
    simp only [DefineArgs.bytes, halfBytes, bytes16, bytes32, List.cons_append, List.nil_append, defineArgs,
      elementArg_halves, kind, machineArg_byteOf, zone, be16_bytes16, be32_bytes32,
      (rateWindowOk_iff ..).2 window]

theorem tenancyArgs_eq_some_iff {payload : List Byte} {e : ElementIx} {g : Generation} :
    tenancyArgs payload = some (e, g) ↔ payload = tenancyBytes e g := by
  constructor
  · intro h
    unfold tenancyArgs at h
    split at h
    · split at h
      · next he =>
        cases h
        rw [tenancyBytes, ← elementArg_eq_some_iff.1 he]
        rfl
      · cases h
    · cases h
  · rintro rfl
    simp only [tenancyBytes, halfBytes, bytes16, List.cons_append, List.nil_append, tenancyArgs, elementArg_halves]

theorem elementReadArgs_eq_some_iff {payload : List Byte} {e : ElementIx} :
    elementReadArgs payload = some e ↔ payload = halfBytes e.val := by
  constructor
  · intro h
    unfold elementReadArgs at h
    split at h
    · exact elementArg_eq_some_iff.1 h
    · cases h
  · rintro rfl
    exact elementArg_halves e

theorem limitsArgs_eq_some_iff {payload : List Byte} {e : ElementIx} {g : Generation} {v : LimitValues} :
    limitsArgs payload = some (e, g, v) ↔ payload = limitsBytes e g v ∧ (v.rateHigh = 0 ∨ v.rateLow ≤ v.rateHigh) := by
  constructor
  · intro h
    unfold limitsArgs at h
    split at h
    · split at h
      · next he window =>
        cases h
        refine ⟨?_, (rateWindowOk_iff ..).1 window⟩
        rw [limitsBytes, ← elementArg_eq_some_iff.1 he, bytes32_be32, bytes32_be32, bytes16_be16, bytes16_be16]
        rfl
      · cases h
    · cases h
  · rintro ⟨rfl, window⟩
    simp only [limitsBytes, halfBytes, bytes16, bytes32, List.cons_append, List.nil_append, limitsArgs,
      elementArg_halves, be16_bytes16, be32_bytes32, (rateWindowOk_iff ..).2 window]

theorem ackArgs_eq_some_iff {payload : List Byte} {e : ElementIx} {g : Generation} {f : FlagSet} :
    ackArgs payload = some (e, g, f) ↔ payload = ackBytes e g f := by
  constructor
  · intro h
    unfold ackArgs at h
    split at h
    · split at h
      · next he hf =>
        cases h
        rw [ackBytes, ← elementArg_eq_some_iff.1 he, ← flagsArg_eq_some_iff.1 hf]
        rfl
      · cases h
    · cases h
  · rintro rfl
    have flags : flagsArg (f.setWidth 8) = some f := flagsArg_eq_some_iff.2 rfl
    simp only [ackBytes, halfBytes, bytes16, List.cons_append, List.nil_append, ackArgs, elementArg_halves, flags]

theorem passEntries_spelled {bytes : List Byte} {l : List PassEntry} (h : passEntries bytes = some l) :
    bytes = l.flatMap PassEntry.bytes := by
  induction bytes using passEntries.induct generalizing l with
  | case1 =>
    cases h
    rfl
  | case2 z c rest zone cls more hmore hcls hzone ih => simp [passEntries, hzone, hcls, hmore] at h
  | case3 z c n rest zone cls more hmore hcls hzone hcount ih =>
    simp only [passEntries, hzone, hcls, hmore, if_neg hcount, Option.some.injEq] at h
    subst h
    rw [zoneArg_eq_some_iff.1 hzone, (byteIndex_iff (by omega)).1 hcls, ih hmore]
    rfl
  | case4 z c n rest hnone ih =>
    rw [passEntries] at h
    split at h
    · next hzone hcls hmore => exact (hnone _ _ _ hzone hcls hmore).elim
    · cases h
  | case5 bytes hempty hshort => simp [passEntries] at h

/-- The entries of a report are read back one by one. -/
theorem passEntries_bytes {l : List PassEntry} (counts : ∀ n ∈ l, n.count ≠ 0) :
    passEntries (l.flatMap PassEntry.bytes) = some l := by
  induction l with
  | nil => rfl
  | cons n rest ih =>
    have zone : zoneArg (byteOf n.zone.val) = some n.zone := zoneArg_eq_some_iff.2 rfl
    have cls : indexArg 8 (byteOf n.itemClass.val).toNat = some n.itemClass := (byteIndex_iff (by omega)).2 rfl
    obtain ⟨count, others⟩ := List.forall_mem_cons.1 counts
    simp only [List.flatMap_cons, PassEntry.bytes, List.cons_append, List.nil_append, passEntries, zone, cls,
      ih others, count, if_false]

theorem passArgs_eq_some_iff {payload : List Byte} {m : MachineId} {l : List PassEntry} :
    passArgs payload = some (m, l) ↔
      payload = passBytes m l ∧ 1 ≤ l.length ∧ l.length ≤ 8 ∧ ∀ n ∈ l, n.count ≠ 0 := by
  constructor
  · intro h
    have counts : ∀ n ∈ l, n.count ≠ 0 := fun n hn zero => by
      have := passArgs_count_pos h n hn
      simp [zero] at this
    unfold passArgs at h
    split at h
    · next n _ =>
      split at h
      · next hm hl =>
        split at h
        · next fits =>
          cases h
          obtain ⟨some, few, count⟩ := fits
          have length : n = byteOf l.length := (toNat_eq_iff_ofNat (by omega)).1 count.symm
          refine ⟨?_, by omega, by omega, counts⟩
          rw [passBytes, ← machineArg_eq_some_iff.1 hm, ← passEntries_spelled hl, ← length]
        · cases h
      · cases h
    · cases h
  · rintro ⟨rfl, some, few, counts⟩
    have length : (byteOf l.length).toNat = l.length := (toNat_eq_iff_ofNat (w := 8) (by omega)).2 rfl
    simp only [passBytes, passArgs, machineArg_byteOf, passEntries_bytes counts, length, some, few, and_self, if_true]

theorem runArgs_eq_some_iff {payload : List Byte} {m : MachineId} {seconds : Byte} :
    runArgs payload = some (m, seconds) ↔ payload = [byteOf m.val, seconds] ∧ seconds ≠ 0 := by
  constructor
  · intro h
    unfold runArgs at h
    split at h
    · split at h
      · next hm =>
        split at h
        · cases h
        · next positive =>
          cases h
          rw [← machineArg_eq_some_iff.1 hm]
          exact ⟨rfl, positive⟩
      · cases h
    · cases h
  · rintro ⟨rfl, positive⟩
    simp only [runArgs, machineArg_byteOf, positive, if_false]

theorem modeArgs_eq_some_iff {payload : List Byte} {m : MachineId} {mode : Mode} :
    modeArgs payload = some (m, mode) ↔ payload = [byteOf m.val, mode.code] := by
  constructor
  · intro h
    unfold modeArgs at h
    split at h
    · split at h
      · next hm hmode =>
        cases h
        rw [← machineArg_eq_some_iff.1 hm, ← modeArg_eq_some_iff.1 hmode]
      · cases h
    · cases h
  · rintro rfl
    have read : modeArg mode.code = some mode := modeArg_eq_some_iff.2 rfl
    simp only [modeArgs, machineArg_byteOf, read]

theorem queueArgs_eq_some_iff {payload : List Byte} {m : MachineId} {position : Fin 512} :
    queueArgs payload = some (m, position) ↔ payload = byteOf m.val :: halfBytes position.val := by
  constructor
  · intro h
    unfold queueArgs at h
    split at h
    · split at h
      · next hm hp =>
        cases h
        rw [← machineArg_eq_some_iff.1 hm, ← (halfIndex_iff (by omega)).1 hp]
      · cases h
    · cases h
  · rintro rfl
    have read := elementArg_halves position
    rw [elementArg] at read
    simp only [halfBytes, bytes16, queueArgs, machineArg_byteOf, read]

theorem windowSetArgs_eq_some_iff {payload : List Byte} {m : MachineId} {w : WindowSlot} {v : Window} :
    windowSetArgs payload = some (m, w, v) ↔ payload = windowSetBytes m w v ∧ v.start ≤ v.finish ∧ v.capacity ≠ 0 := by
  constructor
  · intro h
    unfold windowSetArgs at h
    split at h
    · split at h
      · next hm hw =>
        split at h
        · next admitted =>
          cases h
          refine ⟨?_, admitted⟩
          rw [windowSetBytes, ← machineArg_eq_some_iff.1 hm, ← (byteIndex_iff (by omega)).1 hw, bytes32_be32,
            bytes32_be32]
          rfl
        · cases h
      · cases h
    · cases h
  · rintro ⟨rfl, ordered, capacity⟩
    have slot : indexArg 8 (byteOf w.val).toNat = some w := (byteIndex_iff (by omega)).2 rfl
    simp only [windowSetBytes, bytes32, List.cons_append, List.nil_append, windowSetArgs, machineArg_byteOf, slot,
      be32_bytes32, ordered, capacity, ne_eq, not_false_eq_true, and_self, if_true]

theorem windowDropArgs_eq_some_iff {payload : List Byte} {m : MachineId} {w : WindowSlot} :
    windowDropArgs payload = some (m, w) ↔ payload = [byteOf m.val, byteOf w.val] := by
  constructor
  · intro h
    unfold windowDropArgs at h
    split at h
    · split at h
      · next hm hw =>
        cases h
        rw [← machineArg_eq_some_iff.1 hm, ← (byteIndex_iff (by omega)).1 hw]
      · cases h
    · cases h
  · rintro rfl
    have slot : indexArg 8 (byteOf w.val).toNat = some w := (byteIndex_iff (by omega)).2 rfl
    simp only [windowDropArgs, machineArg_byteOf, slot]

theorem planBuildArgs_eq_some_iff {payload : List Byte} {m : MachineId} :
    planBuildArgs payload = some m ↔ payload = [byteOf m.val] := by
  constructor
  · intro h
    unfold planBuildArgs at h
    split at h
    · rw [← machineArg_eq_some_iff.1 h]
    · cases h
  · rintro rfl
    exact machineArg_byteOf m

theorem planReadArgs_eq_some_iff {payload : List Byte} {m : MachineId} {list : PlanList} {position : Fin 32} :
    planReadArgs payload = some (m, list, position) ↔
      payload = [byteOf m.val, list.selector, byteOf position.val] := by
  constructor
  · intro h
    unfold planReadArgs at h
    split at h
    · split at h
      · next hm hl hp =>
        cases h
        rw [← machineArg_eq_some_iff.1 hm, ← planListArg_eq_some_iff.1 hl, ← (byteIndex_iff (by omega)).1 hp]
      · cases h
    · cases h
  · rintro rfl
    have selected : planListArg list.selector = some list := planListArg_eq_some_iff.2 rfl
    have read : indexArg 32 (byteOf position.val).toNat = some position := (byteIndex_iff (by omega)).2 rfl
    simp only [planReadArgs, machineArg_byteOf, selected, read]

theorem postArgs_eq_some_iff {form : PostForm} {payload : List Byte} {a : PostArgs} :
    postArgs form payload = some a ↔ payload = postBytes form a := by
  constructor
  · intro h
    unfold postArgs at h
    split at h
    · split at h
      · next he =>
        split at h
        · next spelled =>
          obtain ⟨rfl, rfl⟩ := spelled
          cases h
          rw [postBytes, ← elementArg_eq_some_iff.1 he, bytes32_be32]
          rfl
        · cases h
      · cases h
    · cases h
  · rintro rfl
    simp only [postBytes, halfBytes, bytes16, bytes32, List.cons_append, List.nil_append, postArgs, elementArg_halves,
      be32_bytes32, and_self, if_true]

theorem historyReadArgs_eq_some_iff {payload : List Byte} {e : ElementIx} {skip : Fin 24} :
    historyReadArgs payload = some (e, skip) ↔ payload = halfBytes e.val ++ [byteOf skip.val] := by
  constructor
  · intro h
    unfold historyReadArgs at h
    split at h
    · split at h
      · next he hs =>
        cases h
        rw [← elementArg_eq_some_iff.1 he, ← (byteIndex_iff (by omega)).1 hs]
        rfl
      · cases h
    · cases h
  · rintro rfl
    have read : indexArg 24 (byteOf skip.val).toNat = some skip := (byteIndex_iff (by omega)).2 rfl
    simp only [halfBytes, bytes16, List.cons_append, List.nil_append, historyReadArgs, elementArg_halves, read]

theorem findArgs_eq_some_iff {payload : List Byte} {selector : Option MachineId} {flags : FlagSet}
    {start : Option ElementIx} :
    findArgs payload = some (.elementFind selector flags start) ↔
      flags ≠ 0 ∧ payload = [selectorByte selector, flags.setWidth 8] ++ bytes16 (startHalf start) := by
  constructor
  · intro h
    unfold findArgs at h
    split at h
    · split at h
      · next hm hf hs =>
        split at h
        · cases h
        · next named =>
          cases h
          rw [← selectorArg_eq_some_iff.1 hm, ← flagsArg_eq_some_iff.1 hf, ← startArg_eq_some_iff.1 hs]
          exact ⟨named, rfl⟩
      · cases h
    · cases h
  · rintro ⟨named, rfl⟩
    have machine : selectorArg (selectorByte selector) = some selector := selectorArg_eq_some_iff.2 rfl
    have read : flagsArg (flags.setWidth 8) = some flags := flagsArg_eq_some_iff.2 rfl
    have first : startArg ((startHalf start).extractLsb' 8 8) ((startHalf start).extractLsb' 0 8) = some start :=
      startArg_eq_some_iff.2 rfl
    simp only [bytes16, List.cons_append, List.nil_append, findArgs, machine, read, first, named, if_false]

theorem causeArgs_eq_some_iff {payload : List Byte} {named : CauseSet} :
    causeArgs payload = some named ↔ payload = bytes16 (named.setWidth 16) := by
  constructor
  · intro h
    unfold causeArgs at h
    split at h
    · exact causesArg_eq_some_iff.1 h
    · cases h
  · rintro rfl
    exact causesArg_eq_some_iff.2 rfl

/-- Settles O43: each layout in turn. -/
theorem requestPayloadsReadBack : Obligations.RequestPayloadsReadBack := by
  refine ⟨fun _ _ => defineArgs_eq_some_iff, fun _ _ _ => tenancyArgs_eq_some_iff,
    fun _ _ => elementReadArgs_eq_some_iff, fun _ _ _ _ => limitsArgs_eq_some_iff,
    fun _ _ _ _ => ackArgs_eq_some_iff, fun _ _ _ => passArgs_eq_some_iff, fun _ _ _ _ => windowSetArgs_eq_some_iff,
    fun _ _ _ => postArgs_eq_some_iff, fun _ _ _ => runArgs_eq_some_iff, fun payload m mode => ?_,
    fun _ _ _ => queueArgs_eq_some_iff, fun _ _ _ => windowDropArgs_eq_some_iff,
    fun _ _ => planBuildArgs_eq_some_iff, fun payload m list position => ?_,
    fun _ _ _ => historyReadArgs_eq_some_iff, fun payload selector flags start => ?_,
    fun _ _ => causeArgs_eq_some_iff⟩
  · cases mode <;> exact modeArgs_eq_some_iff
  · cases list <;> exact planReadArgs_eq_some_iff
  · cases selector <;> cases start <;> exact findArgs_eq_some_iff

end Sys2Proof.Machine

/-! # Proofs: SETTINGS_WRITE (R179) -/

namespace Sys2Proof.Machine

/-! ## The arguments of a write -/

theorem settingsWriteArgs_of_length {payload : List Byte} (h : payload.length ≠ 4) :
    settingsWriteArgs payload = none := by
  unfold settingsWriteArgs
  split
  · exact (h rfl).elim
  · rfl

theorem settingsWriteArgs_noItem {code index : Byte} (none : settingItem code index = .none) (v1 v0 : Byte) :
    settingsWriteArgs [code, index, v1, v0] = .none := by
  simp only [settingsWriteArgs, none]

theorem settingsWriteArgs_item {code index : Byte} {item : SettingItem} (some : settingItem code index = .some item)
    (v : Half) : settingsWriteArgs ([code, index] ++ bytes16 v) = .some (item, code, index, v) := by
  simp only [bytes16, List.cons_append, List.nil_append, settingsWriteArgs, some, be16_bytes16]

/-- Table 11-2 gives each code its range of indices, and no code but 1 to 11. -/
theorem settingItem_none {code index : Byte}
    (h : code.toNat = 0 ∨ 11 < code.toNat ∨ ((code = 1 ∨ code = 11) ∧ index ≠ 0) ∨ (code = 2 ∧ 8 ≤ index.toNat) ∨
      ((code = 3 ∨ code = 5 ∨ code = 6 ∨ code = 7 ∨ code = 8 ∨ code = 9) ∧ 4 ≤ index.toNat) ∨
      (code = 10 ∧ 5 ≤ index.toNat)) : settingItem code index = none := by
  rcases h with unknown | unknown | ⟨single, beyond⟩ | ⟨rfl, beyond⟩ | ⟨four, beyond⟩ | ⟨rfl, beyond⟩
  · exact settingItem_unknown_code (.inl unknown)
  · exact settingItem_unknown_code (.inr unknown)
  · rcases single with rfl | rfl <;> exact (settingItem_single rfl).trans (if_neg beyond)
  · exact settingItem_out_of_range rfl beyond
  · exact settingItem_beyond_four (by tauto) beyond
  · exact settingItem_out_of_range rfl beyond

/-- Code 4 names the machine mode, whatever the index. -/
theorem settingItem_machineMode (index : Byte) :
    settingItem 4 index = none ∨ ∃ m, settingItem 4 index = some (.machineMode m) := by
  have read : settingItem 4 index = (indexArg 4 index.toNat).map .machineMode := rfl
  rw [read]
  cases indexArg 4 index.toNat with
  | none => exact .inl rfl
  | some m => exact .inr ⟨m, rfl⟩

/-! ## A write with its role -/

section Write

variable {s : State} {p : Port} {payload : List Byte} {item : SettingItem} {code index : Byte} {v : Half}

theorem settingsWrite_denied (h : s.settings.holds p .admin = false) :
    settingsWrite p payload s = (s, refuse .denied) := if_pos h

theorem settingsWrite_badArg (h : s.settings.holds p .admin = true) (none : settingsWriteArgs payload = .none) :
    settingsWrite p payload s = (s, refuse .badArg) := by
  simp only [settingsWrite, h, none, Bool.true_eq_false, if_false]

theorem settingsWrite_refuses (h : s.settings.holds p .admin = true)
    (some : settingsWriteArgs payload = .some (item, code, index, v)) (none : s.settings.write v item = .none) :
    settingsWrite p payload s = (s, refuse .badArg) := by
  simp only [settingsWrite, h, some, none, Bool.true_eq_false, if_false]

theorem settingsWrite_stores {st : Settings} (h : s.settings.holds p .admin = true)
    (some : settingsWriteArgs payload = .some (item, code, index, v)) (written : s.settings.write v item = .some st) :
    settingsWrite p payload s =
      (s.applySetting st item,
        { status := if st.read item = v then .ok else .clamped, body := [code, index] ++ bytes16 (st.read item) }) := by
  simp only [settingsWrite, h, some, written, Bool.true_eq_false, if_false]

/-- A taken write answers with the value stored, CLAMPED when it is not the value written (R179). -/
theorem exec_settingsWrite_stored (ready : s.phase = .ready) (role : s.settings.holds p .admin = true)
    (named : settingItem code index = .some item) {st : Settings} (written : s.settings.write v item = .some st)
    {w : Nat} (small : w < 65536) (read : st.read item = BitVec.ofNat 16 w) :
    exec (.settingsWrite p ([code, index] ++ bytes16 v)) s = .next
      ((s.applySetting st item).answer p 0xF2#8
        { status := if w = v.toNat then .ok else .clamped
          body := [code, index] ++ bytes16 (BitVec.ofNat 16 w) }) := by
  have same : BitVec.ofNat 16 w = v ↔ w = v.toNat :=
    ⟨fun h => ((toNat_eq_iff_ofNat small).2 h.symm).symm, fun h => ((toNat_eq_iff_ofNat small).1 h.symm).symm⟩
  have status : (if BitVec.ofNat 16 w = v then Status.ok else .clamped) = if w = v.toNat then .ok else .clamped :=
    if_congr same rfl rfl
  have stores := settingsWrite_stores role (settingsWriteArgs_item named v) written
  rw [read, status] at stores
  calc exec (.settingsWrite p ([code, index] ++ bytes16 v)) s
      = .next ((settingsWrite p ([code, index] ++ bytes16 v) s).1.answer p 0xF2#8
          (settingsWrite p ([code, index] ++ bytes16 v) s).2) := takeRequest_ready ready ..
    _ = _ := by rw [stores]

end Write

/-! ## Values written -/

theorem half_ne_of_lt {v : Half} {k n : Nat} (le : k ≤ n) (above : n < v.toNat) : v ≠ BitVec.ofNat 16 k := by
  rintro rfl
  have := Nat.mod_le k (2 ^ 16)
  rw [BitVec.toNat_ofNat] at above
  omega

theorem policyArg_beyond {v : Half} (h : 3 < v.toNat) : policyArg v = none := by
  have ne0 : v ≠ 0 := half_ne_of_lt (k := 0) (by omega) h
  have ne1 : v ≠ 1 := half_ne_of_lt (k := 1) (by omega) h
  have ne2 : v ≠ 2 := half_ne_of_lt (k := 2) (by omega) h
  have ne3 : v ≠ 3 := half_ne_of_lt (k := 3) (by omega) h
  simp only [policyArg, ne0, ne1, ne2, ne3, if_false]

theorem policyArg_code (x : NotifyPolicy) : policyArg (x.code.setWidth 16) = some x := by cases x <;> rfl

theorem discardTimeArg_code (x : DiscardTime) : discardTimeArg (x.code.setWidth 16) = some x := by cases x <;> rfl

theorem tierArg_code (x : Tier) : tierArg (x.code.setWidth 16) = some x := by cases x <;> rfl

theorem supplyPolicyArg_code (x : SupplyPolicy) : supplyPolicyArg (x.code.setWidth 16) = some x := by cases x <;> rfl

section TwoValues

variable {v : Half} (h : 1 < v.toNat)
include h

theorem discardTimeArg_beyond : discardTimeArg v = none := by
  have ne0 : v ≠ 0 := half_ne_of_lt (k := 0) (by omega) h
  have ne1 : v ≠ 1 := half_ne_of_lt (k := 1) (by omega) h
  simp only [discardTimeArg, ne0, ne1, if_false]

theorem tierArg_beyond : tierArg v = none := by
  have ne0 : v ≠ 0 := half_ne_of_lt (k := 0) (by omega) h
  have ne1 : v ≠ 1 := half_ne_of_lt (k := 1) (by omega) h
  simp only [tierArg, ne0, ne1, if_false]

theorem supplyPolicyArg_beyond : supplyPolicyArg v = none := by
  have ne0 : v ≠ 0 := half_ne_of_lt (k := 0) (by omega) h
  have ne1 : v ≠ 1 := half_ne_of_lt (k := 1) (by omega) h
  simp only [supplyPolicyArg, ne0, ne1, if_false]

end TwoValues

/-- A value that fits the low bits is read back whole (R170). -/
theorem extract_setWidth {n : Nat} {v : Half} (fits : v.toNat < 2 ^ n) :
    (v.extractLsb' 0 n).setWidth 16 = BitVec.ofNat 16 v.toNat := by
  refine BitVec.eq_of_toNat_eq ?_
  simp only [BitVec.toNat_setWidth, BitVec.extractLsb'_toNat, Nat.shiftRight_zero, BitVec.toNat_ofNat,
    Nat.mod_eq_of_lt fits]

theorem ofNat_toNat_half (v : Half) : BitVec.ofNat 16 v.toNat = v := by
  rw [BitVec.ofNat_toNat, BitVec.setWidth_eq]

/-- The low eleven bits hold every cause (R171). -/
theorem hasCause_extract (v : Half) (c : Cause) : hasCause (v.extractLsb' 0 11) c = v.getLsbD c.code := by
  simp [hasCause, c.code_lt]

theorem byteOf_setWidth {n : Nat} (small : n < 256) : (byteOf n).setWidth 16 = BitVec.ofNat 16 n := by
  refine BitVec.eq_of_toNat_eq ?_
  simp only [byteOf, BitVec.toNat_setWidth, BitVec.toNat_ofNat]
  omega

theorem clampLength_eq (v : Half) :
    clampLength v = byteOf (if v.toNat = 0 then 1 else if 240 < v.toNat then 240 else v.toNat) := by
  refine congrArg byteOf ?_
  split_ifs <;> omega

theorem clampWeight_eq (v : Half) : clampWeight v = byteOf (if 255 < v.toNat then 255 else v.toNat) := by
  refine congrArg byteOf ?_
  split_ifs <;> omega

theorem clampShift_val (v : Half) : (clampShift v).val = if 7 < v.toNat then 7 else v.toNat := by
  change min v.toNat 7 = _
  split_ifs <;> omega

/-- Settles O48: the checks first, then the value each item stores and reads back. -/
theorem settingsWriteStoresOneItem : Obligations.SettingsWriteStoresOneItem := by
  refine ⟨fun s p ready => ?_, fun s p code index item v ready named => ?_⟩
  · intro refused
    have refuses {payload : List Byte} {st : Status} (h : settingsWrite p payload s = (s, refuse st)) :
        refused payload st := takeRequest_refused ready h
    refine ⟨fun noRole payload => refuses (settingsWrite_denied noRole), fun role =>
      ⟨fun payload length => refuses (settingsWrite_badArg role (settingsWriteArgs_of_length length)),
        fun code index v1 v0 bad => ?_⟩⟩
    have outside (h : settingItem code index = none) : refused [code, index, v1, v0] .badArg :=
      refuses (settingsWrite_badArg role (settingsWriteArgs_noItem h v1 v0))
    rcases bad with unknown | unknown | rfl | beyond
    · exact outside (settingItem_none (.inl unknown))
    · exact outside (settingItem_none (.inr (.inl unknown)))
    · rcases settingItem_machineMode index with none | ⟨m, some⟩
      · exact outside none
      · have args := settingsWriteArgs_item some (be16 v1 v0)
        rw [bytes16_be16] at args
        exact refuses (settingsWrite_refuses role args rfl)
    · exact outside (settingItem_none (.inr (.inr beyond)))
  · intro payload st refused stored
    have refuses (role : s.settings.holds p .admin = true) (none : s.settings.write v item = .none) :
        refused .badArg :=
      takeRequest_refused ready (settingsWrite_refuses role (settingsWriteArgs_item named v) none)
    refine ⟨fun noRole => takeRequest_refused ready (settingsWrite_denied noRole), fun role => ?_⟩
    have stores {w : Nat} {t : Settings} (written : s.settings.write v item = some t) (small : w < 65536)
        (read : t.read item = BitVec.ofNat 16 w) : stored (s.applySetting t item) w :=
      exec_settingsWrite_stored ready role named written small read
    have fits : v.toNat < 65536 := v.isLt
    cases item with
    | intervalLength =>
      have small : (if v.toNat = 0 then 1 else if 240 < v.toNat then 240 else v.toNat) < 256 := by split_ifs <;> omega
      have written : s.settings.write v .intervalLength = some
          { s.settings with
            intervalLength := byteOf (if v.toNat = 0 then 1 else if 240 < v.toNat then 240 else v.toNat) } := by
        rw [Settings.write, clampLength_eq]
      exact stores written (by omega) (byteOf_setWidth small)
    | classWeight c =>
      have small : (if 255 < v.toNat then 255 else v.toNat) < 256 := by split_ifs <;> omega
      have read : ((s.settings.weights.set c (byteOf (if 255 < v.toNat then 255 else v.toNat)))[c]).setWidth 16 =
          BitVec.ofNat 16 (if 255 < v.toNat then 255 else v.toNat) := by
        rw [get_set_same, byteOf_setWidth small]
      have written : s.settings.write v (.classWeight c) = some
          { s.settings with
            weights := s.settings.weights.set c (byteOf (if 255 < v.toNat then 255 else v.toNat)) } := by
        rw [Settings.write, clampWeight_eq]
      exact stores written (by omega) read
    | smoothingShift m =>
      have read : BitVec.ofNat 16 ((s.settings.shifts.set m (clampShift v))[m]).val =
          BitVec.ofNat 16 (clampShift v).val := by rw [get_set_same]
      exact ⟨clampShift v, clampShift_val v, stores rfl (by omega) read⟩
    | machineMode m => exact refuses role rfl
    | roleSet q =>
      rintro roles rfl
      have admins := someAdmin_iff { s.settings with roles := s.settings.roles.set q (v.extractLsb' 0 5) }
      refine ⟨fun above => refuses role (if_neg fun both => ?_), fun without => refuses role (if_neg fun both => ?_),
        fun below admin => stores (if_pos ⟨below, admins.2 admin⟩) fits ?_⟩
      · omega
      · obtain ⟨x, holds⟩ := admins.1 both.2
        exact absurd (holds.symm.trans (without x)) (by decide)
      · change ((s.settings.roles.set q (v.extractLsb' 0 5))[q]).setWidth 16 = _
        rw [get_set_same, extract_setWidth below]
    | binding q =>
      refine ⟨fun above => refuses role (if_neg (by omega)), fun below => stores (if_pos below) fits ?_⟩
      change ((s.settings.bindings.set q (v.extractLsb' 0 4))[q]).setWidth 16 = _
      rw [get_set_same, extract_setWidth below]
    | notifyPolicy q =>
      refine ⟨fun above => refuses role (congrArg (Option.map _) (policyArg_beyond above)), fun x value => ?_⟩
      have code : v = x.code.setWidth 16 := by cases x <;> exact BitVec.eq_of_toNat_eq value
      refine stores (congrArg (Option.map _) ((congrArg policyArg code).trans (policyArg_code x))) fits ?_
      change ((s.settings.policies.set q x)[q]).code.setWidth 16 = _
      rw [get_set_same, ← code, ofNat_toNat_half]
    | enableSet q =>
      refine ⟨fun above => refuses role (if_neg (by omega)), fun below =>
        ⟨lineOf s.attention[q].pending (v.extractLsb' 0 11), ?_, ?_⟩⟩
      · rw [lineOf_iff]
        simp only [hasCause_extract]
      · have acts : s.applySetting { s.settings with enables := s.settings.enables.set q (v.extractLsb' 0 11) }
            (.enableSet q) =
            { s with
              settings := { s.settings with enables := s.settings.enables.set q (v.extractLsb' 0 11) }
              attention := s.attention.set q
                { s.attention[q] with line := lineOf s.attention[q].pending (v.extractLsb' 0 11) } } := by
          simp only [State.applySetting, State.setEnable, PortAttention.withPending, get_set_same, Vector.set_set]
        have read : ((s.settings.enables.set q (v.extractLsb' 0 11))[q]).setWidth 16 = BitVec.ofNat 16 v.toNat := by
          rw [get_set_same, extract_setWidth below]
        have := stores (if_pos below) fits read
        rw [acts] at this
        exact this
    | discardTime q =>
      refine ⟨fun above => refuses role (congrArg (Option.map _) (discardTimeArg_beyond above)), fun x value => ?_⟩
      have code : v = x.code.setWidth 16 := by cases x <;> exact BitVec.eq_of_toNat_eq value
      refine stores (congrArg (Option.map _) ((congrArg discardTimeArg code).trans (discardTimeArg_code x))) fits ?_
      change ((s.settings.discardTimes.set q x)[q]).code.setWidth 16 = _
      rw [get_set_same, ← code, ofNat_toNat_half]
    | tierBit r =>
      refine ⟨fun above => refuses role (congrArg (Option.map _) (tierArg_beyond above)), fun x value => ?_⟩
      have code : v = x.code.setWidth 16 := by cases x <;> exact BitVec.eq_of_toNat_eq value
      refine stores (congrArg (Option.map _) ((congrArg tierArg code).trans (tierArg_code x))) fits ?_
      change ((s.settings.tiers.set r x)[r]).code.setWidth 16 = _
      rw [get_set_same, ← code, ofNat_toNat_half]
    | supplyPolicy =>
      refine ⟨fun above => refuses role (congrArg (Option.map _) (supplyPolicyArg_beyond above)), fun x value => ?_⟩
      have code : v = x.code.setWidth 16 := by cases x <;> exact BitVec.eq_of_toNat_eq value
      refine stores (congrArg (Option.map _) ((congrArg supplyPolicyArg code).trans (supplyPolicyArg_code x))) fits ?_
      change x.code.setWidth 16 = _
      rw [← code, ofNat_toNat_half]

end Sys2Proof.Machine
